-- ==== Sys2Proof/Word.lean ====
section
/-! DEFINITION. The two word types of the machine (00_scope.md R6: a byte is 8 bits, u16 is 16 bits; every value is
unsigned). -/

namespace Sys2Proof

/-- `u8` of 00_scope.md R6: an unsigned integer 0 to 255. -/
abbrev Byte := BitVec 8

/-- `u16` of 00_scope.md R6: an unsigned integer 0 to 65535. -/
abbrev Word := BitVec 16

end Sys2Proof
end

