-- ==== Sys2Proof/Config.lean ====
section
/-! DEFINITION. The parameters of the hardware (00_scope.md R5): the constants the source fixes, the post-boot table
(70_reset_and_hazards.md R282), and the type of the open parameter RESET_REGS (92_eei_decisions.md D4). -/

namespace Sys2Proof.Config

/-- Memory size, fixed "for the process lifetime" (20_memory.md R50). -/
def memorySize : Nat := 65536

/-- Reset value of PC (10_state.md R36). -/
def resetPC : Word := 0x0100#16

/-- Reset value of SP (10_state.md R36). -/
def resetSP : Word := 0xFFFE#16

/-- Base of the high page (20_memory.md R68). -/
def highPage : Word := 0xFF00#16

/-- `maxLength` of `loadImage`, fixed at its default (20_memory.md R54; 92_eei_decisions.md D17; log 11). -/
def imageLimit : Nat := 0x8000

/-- The post-boot table, 31 pairs, in the source's order (70_reset_and_hazards.md R282). -/
def postBoot : List (Nat × Byte) :=
  [(0xFF05, 0x00#8), (0xFF06, 0x00#8), (0xFF07, 0x00#8), (0xFF10, 0x80#8), (0xFF11, 0xBF#8), (0xFF12, 0xF3#8)] ++
  [(0xFF14, 0xBF#8), (0xFF16, 0x3F#8), (0xFF17, 0x00#8), (0xFF19, 0xBF#8), (0xFF1A, 0x7F#8), (0xFF1B, 0xFF#8)] ++
  [(0xFF1C, 0x9F#8), (0xFF1E, 0xBF#8), (0xFF20, 0xFF#8), (0xFF21, 0x00#8), (0xFF22, 0x00#8), (0xFF23, 0xBF#8)] ++
  [(0xFF24, 0x77#8), (0xFF25, 0xF3#8), (0xFF26, 0xF1#8), (0xFF40, 0x91#8), (0xFF42, 0x00#8), (0xFF43, 0x00#8)] ++
  [(0xFF45, 0x00#8), (0xFF47, 0xFC#8), (0xFF48, 0xFF#8), (0xFF49, 0xFF#8), (0xFF4A, 0x00#8), (0xFF4B, 0x00#8)] ++
  [(0xFFFF, 0x00#8)]

/-- RESET_REGS (92_eei_decisions.md D4): seven bytes and the four flag bits, given as the byte `f` of which boot keeps
bits 7 to 4 only (10_state.md R36: F[3:0] = 0). -/
structure ResetRegs where
  a : Byte
  b : Byte
  c : Byte
  d : Byte
  e : Byte
  h : Byte
  l : Byte
  f : Byte
  deriving DecidableEq, Repr

/-- The value of RESET_REGS that `State.reset` takes. DESIGN CHOICE, unsafe (log 1): the spec gives none. -/
def resetRegs : ResetRegs :=
  { a := 0x00#8, b := 0x00#8, c := 0x00#8, d := 0x00#8, e := 0x00#8, h := 0x00#8, l := 0x00#8, f := 0x00#8 }

end Sys2Proof.Config
end

