-- ==== Sys2Proof/Machine/State.lean ====
section
/-! DEFINITION. The state of one instance, exactly that of 10_state.md R20; the reasons a step can stop; the state
right after reset (10_state.md R36). -/

namespace Sys2Proof.Machine

/-- The 65536 bytes of 20_memory.md R50 as the list of the cells that differ from what an unlisted address reads as
(`Memory.unlisted`, Machine/Ops.lean), addresses strictly rising (`Memory.wf`; log 7). -/
abbrev Memory := List Host.Cell

/-- 10_state.md R20: eight 8-bit registers, SP, PC, memory, and nothing else (R32, R33, R35). -/
structure State where
  a : Byte
  f : Byte
  b : Byte
  c : Byte
  d : Byte
  e : Byte
  h : Byte
  l : Byte
  sp : Word
  pc : Word
  mem : Memory
  deriving DecidableEq, Repr

/-- The one exception of the core (60_exceptions.md R250, R252). -/
inductive Fault where
  /-- Raised by the meaning of the 64 invalid opcode bytes, fatal (R250, R255). It reports the byte, the address it was
  fetched from (D5), and the state the host can inspect afterwards: PC one past the byte and nothing else changed (log
  5). Safe: the session ends here on the hardware too. -/
  | invalidOpcode (op : Byte) (addr : Word) (atFault : State)
  deriving DecidableEq, Repr

/-- Reasons the model gives no meaning. -/
inductive Refusal where
  /-- Raised by an arm of `exec` whose instruction has no meaning yet; no arm is left that raises it. Safe: the model
  stops where the hardware goes on. -/
  | notModelled (mnemonic : String)
  deriving DecidableEq, Repr

/-- The three outcomes of one step of this machine. -/
abbrev StepOutcome := Host.Outcome State Fault Refusal

/-- The state boot leaves in the registers, over a given memory (70_reset_and_hazards.md R280, items 2 and 3): F[3:0]
is 0 whatever RESET_REGS says. -/
def State.ofBoot (r : Config.ResetRegs) (m : Memory) : State :=
  { a := r.a, f := r.f &&& 0xF0#8, b := r.b, c := r.c, d := r.d, e := r.e, h := r.h, l := r.l,
    sp := Config.resetSP, pc := Config.resetPC, mem := m }

/-- The machine right after reset without an image (10_state.md R36). Memory lists nothing: an unlisted address reads
as its reset contents. The registers the spec leaves open hold the value of log 1. -/
def State.reset : State := State.ofBoot Config.resetRegs []

end Sys2Proof.Machine
end

