-- ==== Sys2Proof/Syntax.lean ====
section
/-! DEFINITION. The instruction set: one constructor for every mnemonic of spec/opcode_table.json (the 192 instructions
of 30_encoding.md R97 with their register operands spelled out, and the invalid byte of R89), and the names of the
operand kinds the instructions are built from. -/

namespace Sys2Proof

/-- The seven registers an 8-bit operand field reaches (30_encoding.md R82; 10_state.md R21). -/
inductive Reg8 where
  | b
  | c
  | d
  | e
  | h
  | l
  | a
  deriving DecidableEq, Repr

/-- The operand table r8 (30_encoding.md R82): a register, or the memory byte at HL (code 6). -/
inductive Operand8 where
  | reg (r : Reg8)
  | indHL
  deriving DecidableEq, Repr

/-- The second operand of an ALU instruction (41_alu.md part 2): `r`, `(HL)` or `d8`. -/
inductive Src8 where
  | reg (r : Reg8)
  | indHL
  | imm (n : Byte)
  deriving DecidableEq, Repr

/-- The operand table rp (30_encoding.md R83). -/
inductive RegPair where
  | bc
  | de
  | hl
  | sp
  deriving DecidableEq, Repr

/-- The pair views (10_state.md R22), which are the operand table rp2 (30_encoding.md R84). -/
inductive Pair where
  | bc
  | de
  | hl
  | af
  deriving DecidableEq, Repr

/-- The ALU operation table (30_encoding.md R85). -/
inductive AluOp where
  | add
  | adc
  | sub
  | sbc
  | and
  | xor
  | or
  | cp
  deriving DecidableEq, Repr

/-- The addressing modes that move A only (42_loads.md R200): `(BC)`, `(DE)`, `(HL+)`, `(HL-)`, `(a16)`, `(C)`. -/
inductive AccMode where
  | indBC
  | indDE
  | hlInc
  | hlDec
  | abs (addr : Word)
  | highC
  deriving DecidableEq, Repr

/-- The instructions. An immediate is carried as the value `Fetch8()` or `Fetch16()` gives (30_encoding.md R86, R87; log
4). -/
inductive Instr where
  /-- `NOP`, byte 0x00, R116. -/
  | nop
  /-- `LD BC,d16`, byte 0x01, R185. -/
  | ldBCd16 (n : Word)
  /-- `LD (BC),A`, byte 0x02, R189. -/
  | ldIndBCA
  /-- `INC BC`, byte 0x03, R170. -/
  | incBC
  /-- `INC B`, byte 0x04, R166. -/
  | incB
  /-- `DEC B`, byte 0x05, R168. -/
  | decB
  /-- `LD B,d8`, byte 0x06, R183. -/
  | ldBd8 (n : Byte)
  /-- `LD A,(BC)`, byte 0x0A, R187. -/
  | ldAIndBC
  /-- `DEC BC`, byte 0x0B, R171. -/
  | decBC
  /-- `INC C`, byte 0x0C, R166. -/
  | incC
  /-- `DEC C`, byte 0x0D, R168. -/
  | decC
  /-- `LD C,d8`, byte 0x0E, R183. -/
  | ldCd8 (n : Byte)
  /-- `LD DE,d16`, byte 0x11, R185. -/
  | ldDEd16 (n : Word)
  /-- `LD (DE),A`, byte 0x12, R190. -/
  | ldIndDEA
  /-- `INC DE`, byte 0x13, R170. -/
  | incDE
  /-- `INC D`, byte 0x14, R166. -/
  | incD
  /-- `DEC D`, byte 0x15, R168. -/
  | decD
  /-- `LD D,d8`, byte 0x16, R183. -/
  | ldDd8 (n : Byte)
  /-- `LD A,(DE)`, byte 0x1A, R188. -/
  | ldAIndDE
  /-- `DEC DE`, byte 0x1B, R171. -/
  | decDE
  /-- `INC E`, byte 0x1C, R166. -/
  | incE
  /-- `DEC E`, byte 0x1D, R168. -/
  | decE
  /-- `LD E,d8`, byte 0x1E, R183. -/
  | ldEd8 (n : Byte)
  /-- `LD HL,d16`, byte 0x21, R185. -/
  | ldHLd16 (n : Word)
  /-- `LD (HL+),A`, byte 0x22, R193. -/
  | ldIndHLIncA
  /-- `INC HL`, byte 0x23, R170. -/
  | incHL
  /-- `INC H`, byte 0x24, R166. -/
  | incH
  /-- `DEC H`, byte 0x25, R168. -/
  | decH
  /-- `LD H,d8`, byte 0x26, R183. -/
  | ldHd8 (n : Byte)
  /-- `LD A,(HL+)`, byte 0x2A, R191. -/
  | ldAIndHLInc
  /-- `DEC HL`, byte 0x2B, R171. -/
  | decHL
  /-- `INC L`, byte 0x2C, R166. -/
  | incL
  /-- `DEC L`, byte 0x2D, R168. -/
  | decL
  /-- `LD L,d8`, byte 0x2E, R183. -/
  | ldLd8 (n : Byte)
  /-- `LD SP,d16`, byte 0x31, R186. -/
  | ldSPd16 (n : Word)
  /-- `LD (HL-),A`, byte 0x32, R194. -/
  | ldIndHLDecA
  /-- `INC SP`, byte 0x33, R170. -/
  | incSP
  /-- `INC (HL)`, byte 0x34, R167. -/
  | incIndHL
  /-- `DEC (HL)`, byte 0x35, R169. -/
  | decIndHL
  /-- `LD (HL),d8`, byte 0x36, R184. -/
  | ldIndHLd8 (n : Byte)
  /-- `LD A,(HL-)`, byte 0x3A, R192. -/
  | ldAIndHLDec
  /-- `DEC SP`, byte 0x3B, R171. -/
  | decSP
  /-- `INC A`, byte 0x3C, R166. -/
  | incA
  /-- `DEC A`, byte 0x3D, R168. -/
  | decA
  /-- `LD A,d8`, byte 0x3E, R183. -/
  | ldAd8 (n : Byte)
  /-- `LD B,B`, byte 0x40, R180. -/
  | ldBB
  /-- `LD B,C`, byte 0x41, R180. -/
  | ldBC
  /-- `LD B,D`, byte 0x42, R180. -/
  | ldBD
  /-- `LD B,E`, byte 0x43, R180. -/
  | ldBE
  /-- `LD B,H`, byte 0x44, R180. -/
  | ldBH
  /-- `LD B,L`, byte 0x45, R180. -/
  | ldBL
  /-- `LD B,(HL)`, byte 0x46, R181. -/
  | ldBIndHL
  /-- `LD B,A`, byte 0x47, R180. -/
  | ldBA
  /-- `LD C,B`, byte 0x48, R180. -/
  | ldCB
  /-- `LD C,C`, byte 0x49, R180. -/
  | ldCC
  /-- `LD C,D`, byte 0x4A, R180. -/
  | ldCD
  /-- `LD C,E`, byte 0x4B, R180. -/
  | ldCE
  /-- `LD C,H`, byte 0x4C, R180. -/
  | ldCH
  /-- `LD C,L`, byte 0x4D, R180. -/
  | ldCL
  /-- `LD C,(HL)`, byte 0x4E, R181. -/
  | ldCIndHL
  /-- `LD C,A`, byte 0x4F, R180. -/
  | ldCA
  /-- `LD D,B`, byte 0x50, R180. -/
  | ldDB
  /-- `LD D,C`, byte 0x51, R180. -/
  | ldDC
  /-- `LD D,D`, byte 0x52, R180. -/
  | ldDD
  /-- `LD D,E`, byte 0x53, R180. -/
  | ldDE
  /-- `LD D,H`, byte 0x54, R180. -/
  | ldDH
  /-- `LD D,L`, byte 0x55, R180. -/
  | ldDL
  /-- `LD D,(HL)`, byte 0x56, R181. -/
  | ldDIndHL
  /-- `LD D,A`, byte 0x57, R180. -/
  | ldDA
  /-- `LD E,B`, byte 0x58, R180. -/
  | ldEB
  /-- `LD E,C`, byte 0x59, R180. -/
  | ldEC
  /-- `LD E,D`, byte 0x5A, R180. -/
  | ldED
  /-- `LD E,E`, byte 0x5B, R180. -/
  | ldEE
  /-- `LD E,H`, byte 0x5C, R180. -/
  | ldEH
  /-- `LD E,L`, byte 0x5D, R180. -/
  | ldEL
  /-- `LD E,(HL)`, byte 0x5E, R181. -/
  | ldEIndHL
  /-- `LD E,A`, byte 0x5F, R180. -/
  | ldEA
  /-- `LD H,B`, byte 0x60, R180. -/
  | ldHB
  /-- `LD H,C`, byte 0x61, R180. -/
  | ldHC
  /-- `LD H,D`, byte 0x62, R180. -/
  | ldHD
  /-- `LD H,E`, byte 0x63, R180. -/
  | ldHE
  /-- `LD H,H`, byte 0x64, R180. -/
  | ldHH
  /-- `LD H,L`, byte 0x65, R180. -/
  | ldHL
  /-- `LD H,(HL)`, byte 0x66, R181. -/
  | ldHIndHL
  /-- `LD H,A`, byte 0x67, R180. -/
  | ldHA
  /-- `LD L,B`, byte 0x68, R180. -/
  | ldLB
  /-- `LD L,C`, byte 0x69, R180. -/
  | ldLC
  /-- `LD L,D`, byte 0x6A, R180. -/
  | ldLD
  /-- `LD L,E`, byte 0x6B, R180. -/
  | ldLE
  /-- `LD L,H`, byte 0x6C, R180. -/
  | ldLH
  /-- `LD L,L`, byte 0x6D, R180. -/
  | ldLL
  /-- `LD L,(HL)`, byte 0x6E, R181. -/
  | ldLIndHL
  /-- `LD L,A`, byte 0x6F, R180. -/
  | ldLA
  /-- `LD (HL),B`, byte 0x70, R182. -/
  | ldIndHLB
  /-- `LD (HL),C`, byte 0x71, R182. -/
  | ldIndHLC
  /-- `LD (HL),D`, byte 0x72, R182. -/
  | ldIndHLD
  /-- `LD (HL),E`, byte 0x73, R182. -/
  | ldIndHLE
  /-- `LD (HL),H`, byte 0x74, R182. -/
  | ldIndHLH
  /-- `LD (HL),L`, byte 0x75, R182. -/
  | ldIndHLL
  /-- `LD (HL),A`, byte 0x77, R182. -/
  | ldIndHLA
  /-- `LD A,B`, byte 0x78, R180. -/
  | ldAB
  /-- `LD A,C`, byte 0x79, R180. -/
  | ldAC
  /-- `LD A,D`, byte 0x7A, R180. -/
  | ldAD
  /-- `LD A,E`, byte 0x7B, R180. -/
  | ldAE
  /-- `LD A,H`, byte 0x7C, R180. -/
  | ldAH
  /-- `LD A,L`, byte 0x7D, R180. -/
  | ldAL
  /-- `LD A,(HL)`, byte 0x7E, R181. -/
  | ldAIndHL
  /-- `LD A,A`, byte 0x7F, R180. -/
  | ldAA
  /-- `ADD A,B`, byte 0x80, R142. -/
  | addAB
  /-- `ADD A,C`, byte 0x81, R142. -/
  | addAC
  /-- `ADD A,D`, byte 0x82, R142. -/
  | addAD
  /-- `ADD A,E`, byte 0x83, R142. -/
  | addAE
  /-- `ADD A,H`, byte 0x84, R142. -/
  | addAH
  /-- `ADD A,L`, byte 0x85, R142. -/
  | addAL
  /-- `ADD A,(HL)`, byte 0x86, R143. -/
  | addAIndHL
  /-- `ADD A,A`, byte 0x87, R142. -/
  | addAA
  /-- `ADC A,B`, byte 0x88, R145. -/
  | adcAB
  /-- `ADC A,C`, byte 0x89, R145. -/
  | adcAC
  /-- `ADC A,D`, byte 0x8A, R145. -/
  | adcAD
  /-- `ADC A,E`, byte 0x8B, R145. -/
  | adcAE
  /-- `ADC A,H`, byte 0x8C, R145. -/
  | adcAH
  /-- `ADC A,L`, byte 0x8D, R145. -/
  | adcAL
  /-- `ADC A,(HL)`, byte 0x8E, R146. -/
  | adcAIndHL
  /-- `ADC A,A`, byte 0x8F, R145. -/
  | adcAA
  /-- `SUB A,B`, byte 0x90, R148. -/
  | subAB
  /-- `SUB A,C`, byte 0x91, R148. -/
  | subAC
  /-- `SUB A,D`, byte 0x92, R148. -/
  | subAD
  /-- `SUB A,E`, byte 0x93, R148. -/
  | subAE
  /-- `SUB A,H`, byte 0x94, R148. -/
  | subAH
  /-- `SUB A,L`, byte 0x95, R148. -/
  | subAL
  /-- `SUB A,(HL)`, byte 0x96, R149. -/
  | subAIndHL
  /-- `SUB A,A`, byte 0x97, R148. -/
  | subAA
  /-- `SBC A,B`, byte 0x98, R151. -/
  | sbcAB
  /-- `SBC A,C`, byte 0x99, R151. -/
  | sbcAC
  /-- `SBC A,D`, byte 0x9A, R151. -/
  | sbcAD
  /-- `SBC A,E`, byte 0x9B, R151. -/
  | sbcAE
  /-- `SBC A,H`, byte 0x9C, R151. -/
  | sbcAH
  /-- `SBC A,L`, byte 0x9D, R151. -/
  | sbcAL
  /-- `SBC A,(HL)`, byte 0x9E, R152. -/
  | sbcAIndHL
  /-- `SBC A,A`, byte 0x9F, R151. -/
  | sbcAA
  /-- `AND A,B`, byte 0xA0, R154. -/
  | andAB
  /-- `AND A,C`, byte 0xA1, R154. -/
  | andAC
  /-- `AND A,D`, byte 0xA2, R154. -/
  | andAD
  /-- `AND A,E`, byte 0xA3, R154. -/
  | andAE
  /-- `AND A,H`, byte 0xA4, R154. -/
  | andAH
  /-- `AND A,L`, byte 0xA5, R154. -/
  | andAL
  /-- `AND A,(HL)`, byte 0xA6, R155. -/
  | andAIndHL
  /-- `AND A,A`, byte 0xA7, R154. -/
  | andAA
  /-- `XOR A,B`, byte 0xA8, R157. -/
  | xorAB
  /-- `XOR A,C`, byte 0xA9, R157. -/
  | xorAC
  /-- `XOR A,D`, byte 0xAA, R157. -/
  | xorAD
  /-- `XOR A,E`, byte 0xAB, R157. -/
  | xorAE
  /-- `XOR A,H`, byte 0xAC, R157. -/
  | xorAH
  /-- `XOR A,L`, byte 0xAD, R157. -/
  | xorAL
  /-- `XOR A,(HL)`, byte 0xAE, R158. -/
  | xorAIndHL
  /-- `XOR A,A`, byte 0xAF, R157. -/
  | xorAA
  /-- `OR A,B`, byte 0xB0, R160. -/
  | orAB
  /-- `OR A,C`, byte 0xB1, R160. -/
  | orAC
  /-- `OR A,D`, byte 0xB2, R160. -/
  | orAD
  /-- `OR A,E`, byte 0xB3, R160. -/
  | orAE
  /-- `OR A,H`, byte 0xB4, R160. -/
  | orAH
  /-- `OR A,L`, byte 0xB5, R160. -/
  | orAL
  /-- `OR A,(HL)`, byte 0xB6, R161. -/
  | orAIndHL
  /-- `OR A,A`, byte 0xB7, R160. -/
  | orAA
  /-- `CP A,B`, byte 0xB8, R163. -/
  | cpAB
  /-- `CP A,C`, byte 0xB9, R163. -/
  | cpAC
  /-- `CP A,D`, byte 0xBA, R163. -/
  | cpAD
  /-- `CP A,E`, byte 0xBB, R163. -/
  | cpAE
  /-- `CP A,H`, byte 0xBC, R163. -/
  | cpAH
  /-- `CP A,L`, byte 0xBD, R163. -/
  | cpAL
  /-- `CP A,(HL)`, byte 0xBE, R164. -/
  | cpAIndHL
  /-- `CP A,A`, byte 0xBF, R163. -/
  | cpAA
  /-- `POP BC`, byte 0xC1, R234. -/
  | popBC
  /-- `PUSH BC`, byte 0xC5, R232. -/
  | pushBC
  /-- `ADD A,d8`, byte 0xC6, R144. -/
  | addAd8 (n : Byte)
  /-- `ADC A,d8`, byte 0xCE, R147. -/
  | adcAd8 (n : Byte)
  /-- `POP DE`, byte 0xD1, R234. -/
  | popDE
  /-- `PUSH DE`, byte 0xD5, R232. -/
  | pushDE
  /-- `SUB A,d8`, byte 0xD6, R150. -/
  | subAd8 (n : Byte)
  /-- `SBC A,d8`, byte 0xDE, R153. -/
  | sbcAd8 (n : Byte)
  /-- `POP HL`, byte 0xE1, R234. -/
  | popHL
  /-- `LD (C),A`, byte 0xE2, R198. -/
  | ldHighCA
  /-- `PUSH HL`, byte 0xE5, R232. -/
  | pushHL
  /-- `AND A,d8`, byte 0xE6, R156. -/
  | andAd8 (n : Byte)
  /-- `LD (a16),A`, byte 0xEA, R196. -/
  | ldAbsA (addr : Word)
  /-- `XOR A,d8`, byte 0xEE, R159. -/
  | xorAd8 (n : Byte)
  /-- `POP AF`, byte 0xF1, R235. -/
  | popAF
  /-- `LD A,(C)`, byte 0xF2, R197. -/
  | ldAHighC
  /-- `PUSH AF`, byte 0xF5, R233. -/
  | pushAF
  /-- `OR A,d8`, byte 0xF6, R162. -/
  | orAd8 (n : Byte)
  /-- `LD A,(a16)`, byte 0xFA, R195. -/
  | ldAAbs (addr : Word)
  /-- `CP A,d8`, byte 0xFE, R165. -/
  | cpAd8 (n : Byte)
  /-- One of the 64 invalid bytes, R89. -/
  | invalid (op : Byte)
  deriving DecidableEq, Repr

end Sys2Proof
end

