-- ==== Sys2Proof/Machine/Ops.lean ====
section
/-! DEFINITION. The named operations over memory and registers (10_state.md, 20_memory.md), the fetch primitives
(40_step_cycle.md R111, R112), the stack primitives (43_stack.md R230, R231) and the raising of InvalidOpcode
(60_exceptions.md R250, R255). -/

namespace Sys2Proof.Machine

/-! ### Byte order -/

/-- `hi || lo` of 00_scope.md R6. -/
def joinBytes (hi lo : Byte) : Word := hi ++ lo

/-- `v[15:8]`. -/
def highByte (v : Word) : Byte := v.extractLsb' 8 8

/-- `v[7:0]`. -/
def lowByte (v : Word) : Byte := v.extractLsb' 0 8

/-! ### Memory -/

/-- What an address that memory does not list reads as: its reset contents, which the spec gives for every address
(10_state.md R36; 70_reset_and_hazards.md R282; log 7). -/
def Memory.unlisted (addr : Nat) : Byte := (Config.postBoot.lookup addr).getD 0x00#8

/-- The byte at an address (20_memory.md R51). -/
def Memory.read : Memory → Nat → Byte
  | [], addr => Memory.unlisted addr
  | cell :: rest, addr => if cell.1 = addr then cell.2 else Memory.read rest addr

/-- Put a cell in its place by address. -/
def Memory.insert (addr : Nat) (v : Byte) : Memory → Memory
  | [] => [(addr, v)]
  | cell :: rest => if addr < cell.1 then (addr, v) :: cell :: rest else cell :: Memory.insert addr v rest

/-- Store a byte (20_memory.md R52): the old entry goes, and a new one is listed unless the byte is what an unlisted
address reads as. -/
def Memory.write (m : Memory) (addr : Nat) (v : Byte) : Memory :=
  let others := m.filter (fun cell => cell.1 ≠ addr)
  if v = Memory.unlisted addr then others else Memory.insert addr v others

/-- Addresses strictly rising from `from_`, inside the address space, and no entry equal to what an unlisted address
reads as. -/
def Memory.wfFrom (from_ : Nat) : Memory → Bool
  | [] => true
  | cell :: rest =>
    from_ ≤ cell.1 && cell.1 < Config.memorySize && cell.2 ≠ Memory.unlisted cell.1 && Memory.wfFrom (cell.1 + 1) rest

/-- The canonical form of memory (log 7). -/
def Memory.wf (m : Memory) : Bool := Memory.wfFrom 0 m

/-- `MemRead(addr, 1)` (20_memory.md R51): defined for every 16-bit address. -/
def State.readByte (s : State) (addr : Word) : Byte := Memory.read s.mem addr.toNat

/-- `MemWrite(addr, 1, v)` (20_memory.md R52): always succeeds; every byte of the space is writable (R53). -/
def State.writeByte (s : State) (addr : Word) (v : Byte) : State := { s with mem := Memory.write s.mem addr.toNat v }

/-! ### Registers -/

/-- Read one of the seven 8-bit operand registers (10_state.md R21). -/
def State.reg8 (s : State) : Reg8 → Byte
  | .b => s.b
  | .c => s.c
  | .d => s.d
  | .e => s.e
  | .h => s.h
  | .l => s.l
  | .a => s.a

/-- Write one of the seven 8-bit operand registers (10_state.md R21). -/
def State.setReg8 (s : State) (r : Reg8) (v : Byte) : State :=
  match r with
  | .b => { s with b := v }
  | .c => { s with c := v }
  | .d => { s with d := v }
  | .e => { s with e := v }
  | .h => { s with h := v }
  | .l => { s with l := v }
  | .a => { s with a := v }

/-- Every write of F stores `v & 0xF0` (10_state.md R25). -/
def State.setF (s : State) (v : Byte) : State := { s with f := v &&& 0xF0#8 }

/-- `get16` (10_state.md R22): a pair is a view of its two registers, the first-named the high byte. -/
def State.pair (s : State) : Pair → Word
  | .af => joinBytes s.a s.f
  | .bc => joinBytes s.b s.c
  | .de => joinBytes s.d s.e
  | .hl => joinBytes s.h s.l

/-- `set16` (10_state.md R23): AF masks the low nibble of the low byte, the other three store it whole. -/
def State.setPair (s : State) (q : Pair) (v : Word) : State :=
  match q with
  | .af => ({ s with a := highByte v }).setF (lowByte v)
  | .bc => { s with b := highByte v, c := lowByte v }
  | .de => { s with d := highByte v, e := lowByte v }
  | .hl => { s with h := highByte v, l := lowByte v }

/-- The pair view HL, the memory pointer (10_state.md R21). -/
def State.hl (s : State) : Word := s.pair .hl

/-! ### Fetch -/

/-- `Fetch8()` (40_step_cycle.md R111): the byte at PC, and PC one further, modulo 65536. -/
def State.fetch8 (s : State) : Byte × State := (s.readByte s.pc, { s with pc := s.pc + 1#16 })

/-- `Fetch16()` (40_step_cycle.md R112): low byte first. -/
def State.fetch16 (s : State) : Word × State :=
  let lo := s.fetch8
  let hi := lo.2.fetch8
  (joinBytes hi.1 lo.1, hi.2)

/-! ### Stack -/

/-- `push(hi, lo)` (43_stack.md R230): decrement, write `hi`, decrement, write `lo`. -/
def State.push (s : State) (hi lo : Byte) : State :=
  let s1 := { s with sp := s.sp - 1#16 }
  let s2 := s1.writeByte s1.sp hi
  let s3 := { s2 with sp := s2.sp - 1#16 }
  s3.writeByte s3.sp lo

/-- `pop()` (43_stack.md R231, as corrected by 90_conflicts.md C1): read `lo`, increment, read `hi`, increment. The
answer is `hi || lo`. -/
def State.pop (s : State) : Word × State :=
  let lo := s.readByte s.sp
  let s1 := { s with sp := s.sp + 1#16 }
  let hi := s1.readByte s1.sp
  (joinBytes hi lo, { s1 with sp := s1.sp + 1#16 })

/-! ### The exception -/

/-- Raising InvalidOpcode (60_exceptions.md R250, R255): there is no handler, no vector and nothing is saved; the byte,
its address (PC - 1 modulo 65536, PC being one past the byte) and the state are reported to the host and the session
ends. There is no return from it (R257). -/
def raiseInvalidOpcode (op : Byte) (s : State) : StepOutcome := .fault (.invalidOpcode op (s.pc - 1#16) s)

end Sys2Proof.Machine
end

