-- ==== Sys2Proof/Machine/Flags.lean ====
section
/-! DEFINITION. The flags of F (10_state.md R26, R27) and the ten ALU primitives with their flag formulas (41_alu.md
R130 to R140). Sums and comparisons in a flag formula are over the natural numbers, not wrapped (00_scope.md R6). -/

namespace Sys2Proof.Machine

/-- The four flags of 10_state.md R26; the pseudocode writes them Z, N, Hf, Cy. -/
inductive Flag where
  | z
  | n
  | hf
  | cy
  deriving DecidableEq, Repr

/-- The bit of F that holds a flag (10_state.md R26). -/
def Flag.bit : Flag → Nat
  | .z => 7
  | .n => 6
  | .hf => 5
  | .cy => 4

/-- `getFlag(name)` (10_state.md R27). -/
def State.getFlag (s : State) (fl : Flag) : Bool := s.f.getLsbD fl.bit

/-- `setFlag(name, b)` (10_state.md R27): that bit alone; F[3:0] stays 0 (R25). -/
def State.setFlag (s : State) (fl : Flag) (b : Bool) : State :=
  let mask := 1#8 <<< fl.bit
  s.setF (if b then s.f ||| mask else s.f &&& ~~~mask)

/-- `(Z << 7) | (N << 6) | (Hf << 5) | (Cy << 4)` (41_alu.md R140). -/
def packFlags (z n hf cy : Bool) : Byte :=
  ((BitVec.ofBool z).setWidth 8 <<< 7) ||| ((BitVec.ofBool n).setWidth 8 <<< 6) |||
    ((BitVec.ofBool hf).setWidth 8 <<< 5) ||| ((BitVec.ofBool cy).setWidth 8 <<< 4)

/-- The low nibble as a number: `x & 0xF`. -/
def lowNibble (x : Byte) : Nat := (x &&& 0x0F#8).toNat

/-- What a primitive returns: a result byte and a new flag byte. -/
structure AluOut where
  result : Byte
  flags : Byte
  deriving DecidableEq, Repr

/-- 41_alu.md R130. -/
def add8 (a b : Byte) : AluOut :=
  let r := a + b
  ⟨r, packFlags (r == 0#8) false (lowNibble a + lowNibble b > 0xF) (a.toNat + b.toNat > 255)⟩

/-- 41_alu.md R131. -/
def adc8 (a b : Byte) (cin : Bool) : AluOut :=
  let r := BitVec.ofNat 8 (a.toNat + b.toNat + cin.toNat)
  ⟨r, packFlags (r == 0#8) false (lowNibble a + lowNibble b + cin.toNat > 0xF) (a.toNat + b.toNat + cin.toNat > 255)⟩

/-- 41_alu.md R132. -/
def sub8 (a b : Byte) : AluOut :=
  let r := a - b
  ⟨r, packFlags (r == 0#8) true (lowNibble a < lowNibble b) (a.toNat < b.toNat)⟩

/-- 41_alu.md R133: the right-hand sides `b + cin` are not wrapped. -/
def sbc8 (a b : Byte) (cin : Bool) : AluOut :=
  let r := a - b - BitVec.ofNat 8 cin.toNat
  ⟨r, packFlags (r == 0#8) true (lowNibble a < lowNibble b + cin.toNat) (a.toNat < b.toNat + cin.toNat)⟩

/-- 41_alu.md R134. -/
def and8 (a b : Byte) : AluOut :=
  let r := a &&& b
  ⟨r, packFlags (r == 0#8) false true false⟩

/-- 41_alu.md R135. -/
def or8 (a b : Byte) : AluOut :=
  let r := a ||| b
  ⟨r, packFlags (r == 0#8) false false false⟩

/-- 41_alu.md R136. -/
def xor8 (a b : Byte) : AluOut :=
  let r := a ^^^ b
  ⟨r, packFlags (r == 0#8) false false false⟩

/-- 41_alu.md R137: `cp8` writes no result; it has flags only. -/
def cp8 (a b : Byte) : Byte :=
  packFlags (a == b) true (lowNibble a < lowNibble b) (a.toNat < b.toNat)

/-- 41_alu.md R138: `f` is the old flag byte, of which bit 4 is kept (R140). -/
def inc8 (x f : Byte) : AluOut :=
  let r := x + 1#8
  ⟨r, packFlags (r == 0#8) false (lowNibble x + 1 > 0xF) false ||| (f &&& 0x10#8)⟩

/-- 41_alu.md R139: `f` is the old flag byte, of which bit 4 is kept (R140). -/
def dec8 (x f : Byte) : AluOut :=
  let r := x - 1#8
  ⟨r, packFlags (r == 0#8) true (lowNibble x < 1) false ||| (f &&& 0x10#8)⟩

/-- The incoming carry, F[4], read before F is overwritten (41_alu.md R131, R140). -/
def State.cin (s : State) : Bool := s.getFlag .cy

/-- `(A, F) <- prim(...)` (41_alu.md R140). -/
def State.setAcc (s : State) (o : AluOut) : State := ({ s with a := o.result }).setF o.flags

end Sys2Proof.Machine
end

