-- ==== Sys2Proof/Machine/Operands.lean ====
section
/-! DEFINITION. The operand forms: the tables r8, rp, rp2 (30_encoding.md R82, R83, R84), the second operand of the ALU
instructions, and the addressing modes with their effective address and side effect (42_loads.md R200). -/

namespace Sys2Proof.Machine

/-- Read `r8[c]` (30_encoding.md R82). -/
def State.operand8 (s : State) : Operand8 → Byte
  | .reg r => s.reg8 r
  | .indHL => s.readByte s.hl

/-- `r8[c] <- v` (30_encoding.md R82). -/
def State.setOperand8 (s : State) (dst : Operand8) (v : Byte) : State :=
  match dst with
  | .reg r => s.setReg8 r v
  | .indHL => s.writeByte s.hl v

/-- The second operand of an ALU instruction: a register, the byte at HL, or the immediate (41_alu.md part 2). -/
def State.src8 (s : State) : Src8 → Byte
  | .reg r => s.reg8 r
  | .indHL => s.readByte s.hl
  | .imm n => n

/-- Read `rp[p]` (30_encoding.md R83). -/
def State.regPair (s : State) : RegPair → Word
  | .bc => s.pair .bc
  | .de => s.pair .de
  | .hl => s.pair .hl
  | .sp => s.sp

/-- `rp[p] <- v` (30_encoding.md R83). -/
def State.setRegPair (s : State) (p : RegPair) (v : Word) : State :=
  match p with
  | .bc => s.setPair .bc v
  | .de => s.setPair .de v
  | .hl => s.setPair .hl v
  | .sp => { s with sp := v }

/-- The effective address of the modes that move A (42_loads.md R200): always the value before the instruction. The
high page is `0xFF00 | C` (20_memory.md R68). -/
def State.effAddr (s : State) : AccMode → Word
  | .indBC => s.pair .bc
  | .indDE => s.pair .de
  | .hlInc => s.hl
  | .hlDec => s.hl
  | .abs addr => addr
  | .highC => Config.highPage ||| s.c.setWidth 16

/-- The side effect of a mode, after the access (42_loads.md R200): `(HL+)` and `(HL-)` move HL by one, modulo 65536. -/
def State.afterAccess (s : State) : AccMode → State
  | .hlInc => s.setPair .hl (s.hl + 1#16)
  | .hlDec => s.setPair .hl (s.hl - 1#16)
  | .indBC => s
  | .indDE => s
  | .abs _ => s
  | .highC => s

/-- `A <- MemRead(addr, 1)`, then the mode's side effect (42_loads.md R187, R188, R191, R192, R195, R197). -/
def State.loadAcc (s : State) (m : AccMode) : State := (s.setReg8 .a (s.readByte (s.effAddr m))).afterAccess m

/-- `MemWrite(addr, 1, A)`, then the mode's side effect (42_loads.md R189, R190, R193, R194, R196, R198). -/
def State.storeAcc (s : State) (m : AccMode) : State := (s.writeByte (s.effAddr m) s.a).afterAccess m

/-- `(r8[y], F) <- prim(r8[y])` (41_alu.md R166 to R169): the operand is read, changed and written back. -/
def State.modify8 (s : State) (prim : Byte → Byte → AluOut) (dst : Operand8) : State :=
  let o := prim (s.operand8 dst) s.f
  (s.setOperand8 dst o.result).setF o.flags

/-- `push(high register, low register)` (43_stack.md R232, R233). -/
def State.pushPair (s : State) (q : Pair) : State := s.push (highByte (s.pair q)) (lowByte (s.pair q))

/-- `(hi, lo) <- pop()` into a pair (43_stack.md R234, R235); AF masks the low nibble. -/
def State.popPair (s : State) (q : Pair) : State := s.pop.2.setPair q s.pop.1

end Sys2Proof.Machine
end

