-- ==== Sys2Proof/Machine/Arith.lean ====
section
/-! DEFINITION. ADD, ADC, SUB, SBC, CP (41_alu.md R142 to R153, R163 to R165). A is the first operand and the destination (D2; log 3). -/

namespace Sys2Proof.Machine

/-- R142, `ADD A,B`. -/
def execAddAB (s : State) : StepOutcome := .next (s.setAcc (add8 s.a s.b))

/-- R142, `ADD A,C`. -/
def execAddAC (s : State) : StepOutcome := .next (s.setAcc (add8 s.a s.c))

/-- R142, `ADD A,D`. -/
def execAddAD (s : State) : StepOutcome := .next (s.setAcc (add8 s.a s.d))

/-- R142, `ADD A,E`. -/
def execAddAE (s : State) : StepOutcome := .next (s.setAcc (add8 s.a s.e))

/-- R142, `ADD A,H`. -/
def execAddAH (s : State) : StepOutcome := .next (s.setAcc (add8 s.a s.h))

/-- R142, `ADD A,L`. -/
def execAddAL (s : State) : StepOutcome := .next (s.setAcc (add8 s.a s.l))

/-- R143, `ADD A,(HL)`. -/
def execAddAIndHL (s : State) : StepOutcome := .next (s.setAcc (add8 s.a (s.readByte s.hl)))

/-- R142, `ADD A,A`. -/
def execAddAA (s : State) : StepOutcome := .next (s.setAcc (add8 s.a s.a))

/-- R145, `ADC A,B`. -/
def execAdcAB (s : State) : StepOutcome := .next (s.setAcc (adc8 s.a s.b s.cin))

/-- R145, `ADC A,C`. -/
def execAdcAC (s : State) : StepOutcome := .next (s.setAcc (adc8 s.a s.c s.cin))

/-- R145, `ADC A,D`. -/
def execAdcAD (s : State) : StepOutcome := .next (s.setAcc (adc8 s.a s.d s.cin))

/-- R145, `ADC A,E`. -/
def execAdcAE (s : State) : StepOutcome := .next (s.setAcc (adc8 s.a s.e s.cin))

/-- R145, `ADC A,H`. -/
def execAdcAH (s : State) : StepOutcome := .next (s.setAcc (adc8 s.a s.h s.cin))

/-- R145, `ADC A,L`. -/
def execAdcAL (s : State) : StepOutcome := .next (s.setAcc (adc8 s.a s.l s.cin))

/-- R146, `ADC A,(HL)`. -/
def execAdcAIndHL (s : State) : StepOutcome := .next (s.setAcc (adc8 s.a (s.readByte s.hl) s.cin))

/-- R145, `ADC A,A`. -/
def execAdcAA (s : State) : StepOutcome := .next (s.setAcc (adc8 s.a s.a s.cin))

/-- R148, `SUB A,B`. -/
def execSubAB (s : State) : StepOutcome := .next (s.setAcc (sub8 s.a s.b))

/-- R148, `SUB A,C`. -/
def execSubAC (s : State) : StepOutcome := .next (s.setAcc (sub8 s.a s.c))

/-- R148, `SUB A,D`. -/
def execSubAD (s : State) : StepOutcome := .next (s.setAcc (sub8 s.a s.d))

/-- R148, `SUB A,E`. -/
def execSubAE (s : State) : StepOutcome := .next (s.setAcc (sub8 s.a s.e))

/-- R148, `SUB A,H`. -/
def execSubAH (s : State) : StepOutcome := .next (s.setAcc (sub8 s.a s.h))

/-- R148, `SUB A,L`. -/
def execSubAL (s : State) : StepOutcome := .next (s.setAcc (sub8 s.a s.l))

/-- R149, `SUB A,(HL)`. -/
def execSubAIndHL (s : State) : StepOutcome := .next (s.setAcc (sub8 s.a (s.readByte s.hl)))

/-- R148, `SUB A,A`. -/
def execSubAA (s : State) : StepOutcome := .next (s.setAcc (sub8 s.a s.a))

/-- R151, `SBC A,B`. -/
def execSbcAB (s : State) : StepOutcome := .next (s.setAcc (sbc8 s.a s.b s.cin))

/-- R151, `SBC A,C`. -/
def execSbcAC (s : State) : StepOutcome := .next (s.setAcc (sbc8 s.a s.c s.cin))

/-- R151, `SBC A,D`. -/
def execSbcAD (s : State) : StepOutcome := .next (s.setAcc (sbc8 s.a s.d s.cin))

/-- R151, `SBC A,E`. -/
def execSbcAE (s : State) : StepOutcome := .next (s.setAcc (sbc8 s.a s.e s.cin))

/-- R151, `SBC A,H`. -/
def execSbcAH (s : State) : StepOutcome := .next (s.setAcc (sbc8 s.a s.h s.cin))

/-- R151, `SBC A,L`. -/
def execSbcAL (s : State) : StepOutcome := .next (s.setAcc (sbc8 s.a s.l s.cin))

/-- R152, `SBC A,(HL)`. -/
def execSbcAIndHL (s : State) : StepOutcome := .next (s.setAcc (sbc8 s.a (s.readByte s.hl) s.cin))

/-- R151, `SBC A,A`. -/
def execSbcAA (s : State) : StepOutcome := .next (s.setAcc (sbc8 s.a s.a s.cin))

/-- R163, `CP A,B`. -/
def execCpAB (s : State) : StepOutcome := .next (s.setF (cp8 s.a s.b))

/-- R163, `CP A,C`. -/
def execCpAC (s : State) : StepOutcome := .next (s.setF (cp8 s.a s.c))

/-- R163, `CP A,D`. -/
def execCpAD (s : State) : StepOutcome := .next (s.setF (cp8 s.a s.d))

/-- R163, `CP A,E`. -/
def execCpAE (s : State) : StepOutcome := .next (s.setF (cp8 s.a s.e))

/-- R163, `CP A,H`. -/
def execCpAH (s : State) : StepOutcome := .next (s.setF (cp8 s.a s.h))

/-- R163, `CP A,L`. -/
def execCpAL (s : State) : StepOutcome := .next (s.setF (cp8 s.a s.l))

/-- R164, `CP A,(HL)`. -/
def execCpAIndHL (s : State) : StepOutcome := .next (s.setF (cp8 s.a (s.readByte s.hl)))

/-- R163, `CP A,A`. -/
def execCpAA (s : State) : StepOutcome := .next (s.setF (cp8 s.a s.a))

/-- R144, `ADD A,d8`. -/
def execAddAd8 (n : Byte) (s : State) : StepOutcome := .next (s.setAcc (add8 s.a n))

/-- R147, `ADC A,d8`. -/
def execAdcAd8 (n : Byte) (s : State) : StepOutcome := .next (s.setAcc (adc8 s.a n s.cin))

/-- R150, `SUB A,d8`. -/
def execSubAd8 (n : Byte) (s : State) : StepOutcome := .next (s.setAcc (sub8 s.a n))

/-- R153, `SBC A,d8`. -/
def execSbcAd8 (n : Byte) (s : State) : StepOutcome := .next (s.setAcc (sbc8 s.a n s.cin))

/-- R165, `CP A,d8`. -/
def execCpAd8 (n : Byte) (s : State) : StepOutcome := .next (s.setF (cp8 s.a n))

end Sys2Proof.Machine
end

