-- ==== Sys2Proof/Machine/Control.lean ====
section
/-! DEFINITION. NOP (40_step_cycle.md R116) and the invalid opcode byte (30_encoding.md R89; 60_exceptions.md R250, R255). -/

namespace Sys2Proof.Machine

/-- R116, `NOP`. -/
def execNop (s : State) : StepOutcome := .next s

/-- R89, an invalid opcode byte: the fatal fault InvalidOpcode (60_exceptions.md R250, R255). -/
def execInvalid (op : Byte) (s : State) : StepOutcome := raiseInvalidOpcode op s

end Sys2Proof.Machine
end

