-- ==== Sys2Proof/Machine/IncDec.lean ====
section
/-! DEFINITION. INC and DEC of 8-bit operands and of 16-bit registers (41_alu.md R166 to R171). -/

namespace Sys2Proof.Machine

/-- R170, `INC BC`. -/
def execIncBC (s : State) : StepOutcome := .next (s.setRegPair .bc (s.regPair .bc + 1#16))

/-- R166, `INC B`. -/
def execIncB (s : State) : StepOutcome := .next (s.modify8 inc8 (.reg .b))

/-- R168, `DEC B`. -/
def execDecB (s : State) : StepOutcome := .next (s.modify8 dec8 (.reg .b))

/-- R171, `DEC BC`. -/
def execDecBC (s : State) : StepOutcome := .next (s.setRegPair .bc (s.regPair .bc - 1#16))

/-- R166, `INC C`. -/
def execIncC (s : State) : StepOutcome := .next (s.modify8 inc8 (.reg .c))

/-- R168, `DEC C`. -/
def execDecC (s : State) : StepOutcome := .next (s.modify8 dec8 (.reg .c))

/-- R170, `INC DE`. -/
def execIncDE (s : State) : StepOutcome := .next (s.setRegPair .de (s.regPair .de + 1#16))

/-- R166, `INC D`. -/
def execIncD (s : State) : StepOutcome := .next (s.modify8 inc8 (.reg .d))

/-- R168, `DEC D`. -/
def execDecD (s : State) : StepOutcome := .next (s.modify8 dec8 (.reg .d))

/-- R171, `DEC DE`. -/
def execDecDE (s : State) : StepOutcome := .next (s.setRegPair .de (s.regPair .de - 1#16))

/-- R166, `INC E`. -/
def execIncE (s : State) : StepOutcome := .next (s.modify8 inc8 (.reg .e))

/-- R168, `DEC E`. -/
def execDecE (s : State) : StepOutcome := .next (s.modify8 dec8 (.reg .e))

/-- R170, `INC HL`. -/
def execIncHL (s : State) : StepOutcome := .next (s.setRegPair .hl (s.regPair .hl + 1#16))

/-- R166, `INC H`. -/
def execIncH (s : State) : StepOutcome := .next (s.modify8 inc8 (.reg .h))

/-- R168, `DEC H`. -/
def execDecH (s : State) : StepOutcome := .next (s.modify8 dec8 (.reg .h))

/-- R171, `DEC HL`. -/
def execDecHL (s : State) : StepOutcome := .next (s.setRegPair .hl (s.regPair .hl - 1#16))

/-- R166, `INC L`. -/
def execIncL (s : State) : StepOutcome := .next (s.modify8 inc8 (.reg .l))

/-- R168, `DEC L`. -/
def execDecL (s : State) : StepOutcome := .next (s.modify8 dec8 (.reg .l))

/-- R170, `INC SP`. -/
def execIncSP (s : State) : StepOutcome := .next (s.setRegPair .sp (s.regPair .sp + 1#16))

/-- R167, `INC (HL)`. -/
def execIncIndHL (s : State) : StepOutcome := .next (s.modify8 inc8 .indHL)

/-- R169, `DEC (HL)`. -/
def execDecIndHL (s : State) : StepOutcome := .next (s.modify8 dec8 .indHL)

/-- R171, `DEC SP`. -/
def execDecSP (s : State) : StepOutcome := .next (s.setRegPair .sp (s.regPair .sp - 1#16))

/-- R166, `INC A`. -/
def execIncA (s : State) : StepOutcome := .next (s.modify8 inc8 (.reg .a))

/-- R168, `DEC A`. -/
def execDecA (s : State) : StepOutcome := .next (s.modify8 dec8 (.reg .a))

end Sys2Proof.Machine
end

