-- ==== Sys2Proof/Machine/Load.lean ====
section
/-! DEFINITION. The loads and stores (42_loads.md). No load changes a flag (R201; log 14). -/

namespace Sys2Proof.Machine

/-- R185, `LD BC,d16`. -/
def execLdBCd16 (n : Word) (s : State) : StepOutcome := .next (s.setRegPair .bc n)

/-- R189, `LD (BC),A`. -/
def execLdIndBCA (s : State) : StepOutcome := .next (s.storeAcc .indBC)

/-- R183, `LD B,d8`. -/
def execLdBd8 (n : Byte) (s : State) : StepOutcome := .next (s.setReg8 .b n)

/-- R187, `LD A,(BC)`. -/
def execLdAIndBC (s : State) : StepOutcome := .next (s.loadAcc .indBC)

/-- R183, `LD C,d8`. -/
def execLdCd8 (n : Byte) (s : State) : StepOutcome := .next (s.setReg8 .c n)

/-- R185, `LD DE,d16`. -/
def execLdDEd16 (n : Word) (s : State) : StepOutcome := .next (s.setRegPair .de n)

/-- R190, `LD (DE),A`. -/
def execLdIndDEA (s : State) : StepOutcome := .next (s.storeAcc .indDE)

/-- R183, `LD D,d8`. -/
def execLdDd8 (n : Byte) (s : State) : StepOutcome := .next (s.setReg8 .d n)

/-- R188, `LD A,(DE)`. -/
def execLdAIndDE (s : State) : StepOutcome := .next (s.loadAcc .indDE)

/-- R183, `LD E,d8`. -/
def execLdEd8 (n : Byte) (s : State) : StepOutcome := .next (s.setReg8 .e n)

/-- R185, `LD HL,d16`. -/
def execLdHLd16 (n : Word) (s : State) : StepOutcome := .next (s.setRegPair .hl n)

/-- R193, `LD (HL+),A`. -/
def execLdIndHLIncA (s : State) : StepOutcome := .next (s.storeAcc .hlInc)

/-- R183, `LD H,d8`. -/
def execLdHd8 (n : Byte) (s : State) : StepOutcome := .next (s.setReg8 .h n)

/-- R191, `LD A,(HL+)`. -/
def execLdAIndHLInc (s : State) : StepOutcome := .next (s.loadAcc .hlInc)

/-- R183, `LD L,d8`. -/
def execLdLd8 (n : Byte) (s : State) : StepOutcome := .next (s.setReg8 .l n)

/-- R186, `LD SP,d16`. -/
def execLdSPd16 (n : Word) (s : State) : StepOutcome := .next (s.setRegPair .sp n)

/-- R194, `LD (HL-),A`. -/
def execLdIndHLDecA (s : State) : StepOutcome := .next (s.storeAcc .hlDec)

/-- R184, `LD (HL),d8`. -/
def execLdIndHLd8 (n : Byte) (s : State) : StepOutcome := .next (s.writeByte s.hl n)

/-- R192, `LD A,(HL-)`. -/
def execLdAIndHLDec (s : State) : StepOutcome := .next (s.loadAcc .hlDec)

/-- R183, `LD A,d8`. -/
def execLdAd8 (n : Byte) (s : State) : StepOutcome := .next (s.setReg8 .a n)

/-- R180, `LD B,B`. -/
def execLdBB (s : State) : StepOutcome := .next (s.setReg8 .b s.b)

/-- R180, `LD B,C`. -/
def execLdBC (s : State) : StepOutcome := .next (s.setReg8 .b s.c)

/-- R180, `LD B,D`. -/
def execLdBD (s : State) : StepOutcome := .next (s.setReg8 .b s.d)

/-- R180, `LD B,E`. -/
def execLdBE (s : State) : StepOutcome := .next (s.setReg8 .b s.e)

/-- R180, `LD B,H`. -/
def execLdBH (s : State) : StepOutcome := .next (s.setReg8 .b s.h)

/-- R180, `LD B,L`. -/
def execLdBL (s : State) : StepOutcome := .next (s.setReg8 .b s.l)

/-- R181, `LD B,(HL)`. -/
def execLdBIndHL (s : State) : StepOutcome := .next (s.setReg8 .b (s.readByte s.hl))

/-- R180, `LD B,A`. -/
def execLdBA (s : State) : StepOutcome := .next (s.setReg8 .b s.a)

/-- R180, `LD C,B`. -/
def execLdCB (s : State) : StepOutcome := .next (s.setReg8 .c s.b)

/-- R180, `LD C,C`. -/
def execLdCC (s : State) : StepOutcome := .next (s.setReg8 .c s.c)

/-- R180, `LD C,D`. -/
def execLdCD (s : State) : StepOutcome := .next (s.setReg8 .c s.d)

/-- R180, `LD C,E`. -/
def execLdCE (s : State) : StepOutcome := .next (s.setReg8 .c s.e)

/-- R180, `LD C,H`. -/
def execLdCH (s : State) : StepOutcome := .next (s.setReg8 .c s.h)

/-- R180, `LD C,L`. -/
def execLdCL (s : State) : StepOutcome := .next (s.setReg8 .c s.l)

/-- R181, `LD C,(HL)`. -/
def execLdCIndHL (s : State) : StepOutcome := .next (s.setReg8 .c (s.readByte s.hl))

/-- R180, `LD C,A`. -/
def execLdCA (s : State) : StepOutcome := .next (s.setReg8 .c s.a)

/-- R180, `LD D,B`. -/
def execLdDB (s : State) : StepOutcome := .next (s.setReg8 .d s.b)

/-- R180, `LD D,C`. -/
def execLdDC (s : State) : StepOutcome := .next (s.setReg8 .d s.c)

/-- R180, `LD D,D`. -/
def execLdDD (s : State) : StepOutcome := .next (s.setReg8 .d s.d)

/-- R180, `LD D,E`. -/
def execLdDE (s : State) : StepOutcome := .next (s.setReg8 .d s.e)

/-- R180, `LD D,H`. -/
def execLdDH (s : State) : StepOutcome := .next (s.setReg8 .d s.h)

/-- R180, `LD D,L`. -/
def execLdDL (s : State) : StepOutcome := .next (s.setReg8 .d s.l)

/-- R181, `LD D,(HL)`. -/
def execLdDIndHL (s : State) : StepOutcome := .next (s.setReg8 .d (s.readByte s.hl))

/-- R180, `LD D,A`. -/
def execLdDA (s : State) : StepOutcome := .next (s.setReg8 .d s.a)

/-- R180, `LD E,B`. -/
def execLdEB (s : State) : StepOutcome := .next (s.setReg8 .e s.b)

/-- R180, `LD E,C`. -/
def execLdEC (s : State) : StepOutcome := .next (s.setReg8 .e s.c)

/-- R180, `LD E,D`. -/
def execLdED (s : State) : StepOutcome := .next (s.setReg8 .e s.d)

/-- R180, `LD E,E`. -/
def execLdEE (s : State) : StepOutcome := .next (s.setReg8 .e s.e)

/-- R180, `LD E,H`. -/
def execLdEH (s : State) : StepOutcome := .next (s.setReg8 .e s.h)

/-- R180, `LD E,L`. -/
def execLdEL (s : State) : StepOutcome := .next (s.setReg8 .e s.l)

/-- R181, `LD E,(HL)`. -/
def execLdEIndHL (s : State) : StepOutcome := .next (s.setReg8 .e (s.readByte s.hl))

/-- R180, `LD E,A`. -/
def execLdEA (s : State) : StepOutcome := .next (s.setReg8 .e s.a)

/-- R180, `LD H,B`. -/
def execLdHB (s : State) : StepOutcome := .next (s.setReg8 .h s.b)

/-- R180, `LD H,C`. -/
def execLdHC (s : State) : StepOutcome := .next (s.setReg8 .h s.c)

/-- R180, `LD H,D`. -/
def execLdHD (s : State) : StepOutcome := .next (s.setReg8 .h s.d)

/-- R180, `LD H,E`. -/
def execLdHE (s : State) : StepOutcome := .next (s.setReg8 .h s.e)

/-- R180, `LD H,H`. -/
def execLdHH (s : State) : StepOutcome := .next (s.setReg8 .h s.h)

/-- R180, `LD H,L`. -/
def execLdHL (s : State) : StepOutcome := .next (s.setReg8 .h s.l)

/-- R181, `LD H,(HL)`. -/
def execLdHIndHL (s : State) : StepOutcome := .next (s.setReg8 .h (s.readByte s.hl))

/-- R180, `LD H,A`. -/
def execLdHA (s : State) : StepOutcome := .next (s.setReg8 .h s.a)

/-- R180, `LD L,B`. -/
def execLdLB (s : State) : StepOutcome := .next (s.setReg8 .l s.b)

/-- R180, `LD L,C`. -/
def execLdLC (s : State) : StepOutcome := .next (s.setReg8 .l s.c)

/-- R180, `LD L,D`. -/
def execLdLD (s : State) : StepOutcome := .next (s.setReg8 .l s.d)

/-- R180, `LD L,E`. -/
def execLdLE (s : State) : StepOutcome := .next (s.setReg8 .l s.e)

/-- R180, `LD L,H`. -/
def execLdLH (s : State) : StepOutcome := .next (s.setReg8 .l s.h)

/-- R180, `LD L,L`. -/
def execLdLL (s : State) : StepOutcome := .next (s.setReg8 .l s.l)

/-- R181, `LD L,(HL)`. -/
def execLdLIndHL (s : State) : StepOutcome := .next (s.setReg8 .l (s.readByte s.hl))

/-- R180, `LD L,A`. -/
def execLdLA (s : State) : StepOutcome := .next (s.setReg8 .l s.a)

/-- R182, `LD (HL),B`. -/
def execLdIndHLB (s : State) : StepOutcome := .next (s.writeByte s.hl s.b)

/-- R182, `LD (HL),C`. -/
def execLdIndHLC (s : State) : StepOutcome := .next (s.writeByte s.hl s.c)

/-- R182, `LD (HL),D`. -/
def execLdIndHLD (s : State) : StepOutcome := .next (s.writeByte s.hl s.d)

/-- R182, `LD (HL),E`. -/
def execLdIndHLE (s : State) : StepOutcome := .next (s.writeByte s.hl s.e)

/-- R182, `LD (HL),H`. -/
def execLdIndHLH (s : State) : StepOutcome := .next (s.writeByte s.hl s.h)

/-- R182, `LD (HL),L`. -/
def execLdIndHLL (s : State) : StepOutcome := .next (s.writeByte s.hl s.l)

/-- R182, `LD (HL),A`. -/
def execLdIndHLA (s : State) : StepOutcome := .next (s.writeByte s.hl s.a)

/-- R180, `LD A,B`. -/
def execLdAB (s : State) : StepOutcome := .next (s.setReg8 .a s.b)

/-- R180, `LD A,C`. -/
def execLdAC (s : State) : StepOutcome := .next (s.setReg8 .a s.c)

/-- R180, `LD A,D`. -/
def execLdAD (s : State) : StepOutcome := .next (s.setReg8 .a s.d)

/-- R180, `LD A,E`. -/
def execLdAE (s : State) : StepOutcome := .next (s.setReg8 .a s.e)

/-- R180, `LD A,H`. -/
def execLdAH (s : State) : StepOutcome := .next (s.setReg8 .a s.h)

/-- R180, `LD A,L`. -/
def execLdAL (s : State) : StepOutcome := .next (s.setReg8 .a s.l)

/-- R181, `LD A,(HL)`. -/
def execLdAIndHL (s : State) : StepOutcome := .next (s.setReg8 .a (s.readByte s.hl))

/-- R180, `LD A,A`. -/
def execLdAA (s : State) : StepOutcome := .next (s.setReg8 .a s.a)

/-- R198, `LD (C),A`. -/
def execLdHighCA (s : State) : StepOutcome := .next (s.storeAcc .highC)

/-- R196, `LD (a16),A`. -/
def execLdAbsA (addr : Word) (s : State) : StepOutcome := .next (s.storeAcc (.abs addr))

/-- R197, `LD A,(C)`. -/
def execLdAHighC (s : State) : StepOutcome := .next (s.loadAcc .highC)

/-- R195, `LD A,(a16)`. -/
def execLdAAbs (addr : Word) (s : State) : StepOutcome := .next (s.loadAcc (.abs addr))

end Sys2Proof.Machine
end

