-- ==== Sys2Proof/Machine/Logic.lean ====
section
/-! DEFINITION. AND, XOR, OR (41_alu.md R154 to R162). A is the first operand and the destination (D2; log 3). -/

namespace Sys2Proof.Machine

/-- R154, `AND A,B`. -/
def execAndAB (s : State) : StepOutcome := .next (s.setAcc (and8 s.a s.b))

/-- R154, `AND A,C`. -/
def execAndAC (s : State) : StepOutcome := .next (s.setAcc (and8 s.a s.c))

/-- R154, `AND A,D`. -/
def execAndAD (s : State) : StepOutcome := .next (s.setAcc (and8 s.a s.d))

/-- R154, `AND A,E`. -/
def execAndAE (s : State) : StepOutcome := .next (s.setAcc (and8 s.a s.e))

/-- R154, `AND A,H`. -/
def execAndAH (s : State) : StepOutcome := .next (s.setAcc (and8 s.a s.h))

/-- R154, `AND A,L`. -/
def execAndAL (s : State) : StepOutcome := .next (s.setAcc (and8 s.a s.l))

/-- R155, `AND A,(HL)`. -/
def execAndAIndHL (s : State) : StepOutcome := .next (s.setAcc (and8 s.a (s.readByte s.hl)))

/-- R154, `AND A,A`. -/
def execAndAA (s : State) : StepOutcome := .next (s.setAcc (and8 s.a s.a))

/-- R157, `XOR A,B`. -/
def execXorAB (s : State) : StepOutcome := .next (s.setAcc (xor8 s.a s.b))

/-- R157, `XOR A,C`. -/
def execXorAC (s : State) : StepOutcome := .next (s.setAcc (xor8 s.a s.c))

/-- R157, `XOR A,D`. -/
def execXorAD (s : State) : StepOutcome := .next (s.setAcc (xor8 s.a s.d))

/-- R157, `XOR A,E`. -/
def execXorAE (s : State) : StepOutcome := .next (s.setAcc (xor8 s.a s.e))

/-- R157, `XOR A,H`. -/
def execXorAH (s : State) : StepOutcome := .next (s.setAcc (xor8 s.a s.h))

/-- R157, `XOR A,L`. -/
def execXorAL (s : State) : StepOutcome := .next (s.setAcc (xor8 s.a s.l))

/-- R158, `XOR A,(HL)`. -/
def execXorAIndHL (s : State) : StepOutcome := .next (s.setAcc (xor8 s.a (s.readByte s.hl)))

/-- R157, `XOR A,A`. -/
def execXorAA (s : State) : StepOutcome := .next (s.setAcc (xor8 s.a s.a))

/-- R160, `OR A,B`. -/
def execOrAB (s : State) : StepOutcome := .next (s.setAcc (or8 s.a s.b))

/-- R160, `OR A,C`. -/
def execOrAC (s : State) : StepOutcome := .next (s.setAcc (or8 s.a s.c))

/-- R160, `OR A,D`. -/
def execOrAD (s : State) : StepOutcome := .next (s.setAcc (or8 s.a s.d))

/-- R160, `OR A,E`. -/
def execOrAE (s : State) : StepOutcome := .next (s.setAcc (or8 s.a s.e))

/-- R160, `OR A,H`. -/
def execOrAH (s : State) : StepOutcome := .next (s.setAcc (or8 s.a s.h))

/-- R160, `OR A,L`. -/
def execOrAL (s : State) : StepOutcome := .next (s.setAcc (or8 s.a s.l))

/-- R161, `OR A,(HL)`. -/
def execOrAIndHL (s : State) : StepOutcome := .next (s.setAcc (or8 s.a (s.readByte s.hl)))

/-- R160, `OR A,A`. -/
def execOrAA (s : State) : StepOutcome := .next (s.setAcc (or8 s.a s.a))

/-- R156, `AND A,d8`. -/
def execAndAd8 (n : Byte) (s : State) : StepOutcome := .next (s.setAcc (and8 s.a n))

/-- R159, `XOR A,d8`. -/
def execXorAd8 (n : Byte) (s : State) : StepOutcome := .next (s.setAcc (xor8 s.a n))

/-- R162, `OR A,d8`. -/
def execOrAd8 (n : Byte) (s : State) : StepOutcome := .next (s.setAcc (or8 s.a n))

end Sys2Proof.Machine
end

