-- ==== Sys2Proof/Machine/Stack.lean ====
section
/-! DEFINITION. PUSH and POP (43_stack.md R232 to R235). -/

namespace Sys2Proof.Machine

/-- R234, `POP BC`. -/
def execPopBC (s : State) : StepOutcome := .next (s.popPair .bc)

/-- R232, `PUSH BC`. -/
def execPushBC (s : State) : StepOutcome := .next (s.pushPair .bc)

/-- R234, `POP DE`. -/
def execPopDE (s : State) : StepOutcome := .next (s.popPair .de)

/-- R232, `PUSH DE`. -/
def execPushDE (s : State) : StepOutcome := .next (s.pushPair .de)

/-- R234, `POP HL`. -/
def execPopHL (s : State) : StepOutcome := .next (s.popPair .hl)

/-- R232, `PUSH HL`. -/
def execPushHL (s : State) : StepOutcome := .next (s.pushPair .hl)

/-- R235, `POP AF`. -/
def execPopAF (s : State) : StepOutcome := .next (s.popPair .af)

/-- R233, `PUSH AF`. -/
def execPushAF (s : State) : StepOutcome := .next (s.pushPair .af)

end Sys2Proof.Machine
end

