-- ==== Sys2Proof/WellFormed.lean ====
section
/-! DEFINITION. Which terms of Instr are instructions of the hardware: every admitted form with every operand value
(30_encoding.md R90), and the invalid byte for the 64 bytes of R89 only (log 6). -/

namespace Sys2Proof

/-- The 64 invalid opcode bytes, in the order of 30_encoding.md R89. -/
def invalidOpcodes : List Byte :=
  [0x07#8, 0x08#8, 0x09#8, 0x0F#8, 0x10#8, 0x17#8, 0x18#8, 0x19#8, 0x1F#8, 0x20#8, 0x27#8, 0x28#8, 0x29#8] ++
  [0x2F#8, 0x30#8, 0x37#8, 0x38#8, 0x39#8, 0x3F#8] ++
  [0x76#8] ++
  [0xC0#8, 0xC2#8, 0xC3#8, 0xC4#8, 0xC7#8, 0xC8#8, 0xC9#8, 0xCA#8, 0xCB#8, 0xCC#8, 0xCD#8, 0xCF#8] ++
  [0xD0#8, 0xD2#8, 0xD3#8, 0xD4#8, 0xD7#8, 0xD8#8, 0xD9#8, 0xDA#8, 0xDB#8, 0xDC#8, 0xDD#8, 0xDF#8] ++
  [0xE0#8, 0xE3#8, 0xE4#8, 0xE7#8, 0xE8#8, 0xE9#8, 0xEB#8, 0xEC#8, 0xED#8, 0xEF#8] ++
  [0xF0#8, 0xF3#8, 0xF4#8, 0xF7#8, 0xF8#8, 0xF9#8, 0xFB#8, 0xFC#8, 0xFD#8, 0xFF#8]

/-- The checks on a term: an immediate of any value is legal, since immediates are used whole (R90); an `invalid` term
carries one of the 64 bytes. -/
def Instr.wellFormed : Instr → Bool
  | .invalid op => invalidOpcodes.contains op
  | .nop | .ldBCd16 _ | .ldIndBCA | .incBC | .incB | .decB | .ldBd8 _ | .ldAIndBC | .decBC | .incC | .decC
  | .ldCd8 _ | .ldDEd16 _ | .ldIndDEA | .incDE | .incD | .decD | .ldDd8 _ | .ldAIndDE | .decDE | .incE | .decE
  | .ldEd8 _ | .ldHLd16 _ | .ldIndHLIncA | .incHL | .incH | .decH | .ldHd8 _ | .ldAIndHLInc | .decHL | .incL
  | .decL | .ldLd8 _ | .ldSPd16 _ | .ldIndHLDecA | .incSP | .incIndHL | .decIndHL | .ldIndHLd8 _ | .ldAIndHLDec
  | .decSP | .incA | .decA | .ldAd8 _ | .ldBB | .ldBC | .ldBD | .ldBE | .ldBH | .ldBL | .ldBIndHL | .ldBA
  | .ldCB | .ldCC | .ldCD | .ldCE | .ldCH | .ldCL | .ldCIndHL | .ldCA | .ldDB | .ldDC | .ldDD | .ldDE | .ldDH
  | .ldDL | .ldDIndHL | .ldDA | .ldEB | .ldEC | .ldED | .ldEE | .ldEH | .ldEL | .ldEIndHL | .ldEA | .ldHB
  | .ldHC | .ldHD | .ldHE | .ldHH | .ldHL | .ldHIndHL | .ldHA | .ldLB | .ldLC | .ldLD | .ldLE | .ldLH | .ldLL
  | .ldLIndHL | .ldLA | .ldIndHLB | .ldIndHLC | .ldIndHLD | .ldIndHLE | .ldIndHLH | .ldIndHLL | .ldIndHLA
  | .ldAB | .ldAC | .ldAD | .ldAE | .ldAH | .ldAL | .ldAIndHL | .ldAA | .addAB | .addAC | .addAD | .addAE
  | .addAH | .addAL | .addAIndHL | .addAA | .adcAB | .adcAC | .adcAD | .adcAE | .adcAH | .adcAL | .adcAIndHL
  | .adcAA | .subAB | .subAC | .subAD | .subAE | .subAH | .subAL | .subAIndHL | .subAA | .sbcAB | .sbcAC
  | .sbcAD | .sbcAE | .sbcAH | .sbcAL | .sbcAIndHL | .sbcAA | .andAB | .andAC | .andAD | .andAE | .andAH
  | .andAL | .andAIndHL | .andAA | .xorAB | .xorAC | .xorAD | .xorAE | .xorAH | .xorAL | .xorAIndHL | .xorAA
  | .orAB | .orAC | .orAD | .orAE | .orAH | .orAL | .orAIndHL | .orAA | .cpAB | .cpAC | .cpAD | .cpAE | .cpAH
  | .cpAL | .cpAIndHL | .cpAA | .popBC | .pushBC | .addAd8 _ | .adcAd8 _ | .popDE | .pushDE | .subAd8 _
  | .sbcAd8 _ | .popHL | .ldHighCA | .pushHL | .andAd8 _ | .ldAbsA _ | .xorAd8 _ | .popAF | .ldAHighC | .pushAF
  | .orAd8 _ | .ldAAbs _ | .cpAd8 _ => true

end Sys2Proof
end

