-- ==== Sys2Proof/Decode.lean ====
section
/-! DEFINITION. The decoder, written from the fields and tables of 30_encoding.md R81 to R88, and the encoder, written
byte by byte from the opcode map of R97. The opcode map is the spec's decisions D1 and D3 (log 2). -/

namespace Sys2Proof

/-! ### The instruction an operation and its operands name (30_encoding.md R88, column "instruction") -/

/-- `alu[y] A,r`, `alu[y] A,(HL)`, `alu[y] A,d8` (41_alu.md R142 to R165). -/
def Instr.alu : AluOp → Src8 → Instr
  | .add, .reg .b => .addAB
  | .add, .reg .c => .addAC
  | .add, .reg .d => .addAD
  | .add, .reg .e => .addAE
  | .add, .reg .h => .addAH
  | .add, .reg .l => .addAL
  | .add, .reg .a => .addAA
  | .add, .indHL => .addAIndHL
  | .add, .imm n => .addAd8 n
  | .adc, .reg .b => .adcAB
  | .adc, .reg .c => .adcAC
  | .adc, .reg .d => .adcAD
  | .adc, .reg .e => .adcAE
  | .adc, .reg .h => .adcAH
  | .adc, .reg .l => .adcAL
  | .adc, .reg .a => .adcAA
  | .adc, .indHL => .adcAIndHL
  | .adc, .imm n => .adcAd8 n
  | .sub, .reg .b => .subAB
  | .sub, .reg .c => .subAC
  | .sub, .reg .d => .subAD
  | .sub, .reg .e => .subAE
  | .sub, .reg .h => .subAH
  | .sub, .reg .l => .subAL
  | .sub, .reg .a => .subAA
  | .sub, .indHL => .subAIndHL
  | .sub, .imm n => .subAd8 n
  | .sbc, .reg .b => .sbcAB
  | .sbc, .reg .c => .sbcAC
  | .sbc, .reg .d => .sbcAD
  | .sbc, .reg .e => .sbcAE
  | .sbc, .reg .h => .sbcAH
  | .sbc, .reg .l => .sbcAL
  | .sbc, .reg .a => .sbcAA
  | .sbc, .indHL => .sbcAIndHL
  | .sbc, .imm n => .sbcAd8 n
  | .and, .reg .b => .andAB
  | .and, .reg .c => .andAC
  | .and, .reg .d => .andAD
  | .and, .reg .e => .andAE
  | .and, .reg .h => .andAH
  | .and, .reg .l => .andAL
  | .and, .reg .a => .andAA
  | .and, .indHL => .andAIndHL
  | .and, .imm n => .andAd8 n
  | .xor, .reg .b => .xorAB
  | .xor, .reg .c => .xorAC
  | .xor, .reg .d => .xorAD
  | .xor, .reg .e => .xorAE
  | .xor, .reg .h => .xorAH
  | .xor, .reg .l => .xorAL
  | .xor, .reg .a => .xorAA
  | .xor, .indHL => .xorAIndHL
  | .xor, .imm n => .xorAd8 n
  | .or, .reg .b => .orAB
  | .or, .reg .c => .orAC
  | .or, .reg .d => .orAD
  | .or, .reg .e => .orAE
  | .or, .reg .h => .orAH
  | .or, .reg .l => .orAL
  | .or, .reg .a => .orAA
  | .or, .indHL => .orAIndHL
  | .or, .imm n => .orAd8 n
  | .cp, .reg .b => .cpAB
  | .cp, .reg .c => .cpAC
  | .cp, .reg .d => .cpAD
  | .cp, .reg .e => .cpAE
  | .cp, .reg .h => .cpAH
  | .cp, .reg .l => .cpAL
  | .cp, .reg .a => .cpAA
  | .cp, .indHL => .cpAIndHL
  | .cp, .imm n => .cpAd8 n

/-- `INC r`, `INC (HL)` (41_alu.md R166 to R169). -/
def Instr.inc8 : Operand8 → Instr
  | .reg .b => .incB
  | .reg .c => .incC
  | .reg .d => .incD
  | .reg .e => .incE
  | .reg .h => .incH
  | .reg .l => .incL
  | .reg .a => .incA
  | .indHL => .incIndHL

/-- `INC rr` (41_alu.md R170, R171). -/
def Instr.inc16 : RegPair → Instr
  | .bc => .incBC
  | .de => .incDE
  | .hl => .incHL
  | .sp => .incSP

/-- `DEC r`, `DEC (HL)` (41_alu.md R166 to R169). -/
def Instr.dec8 : Operand8 → Instr
  | .reg .b => .decB
  | .reg .c => .decC
  | .reg .d => .decD
  | .reg .e => .decE
  | .reg .h => .decH
  | .reg .l => .decL
  | .reg .a => .decA
  | .indHL => .decIndHL

/-- `DEC rr` (41_alu.md R170, R171). -/
def Instr.dec16 : RegPair → Instr
  | .bc => .decBC
  | .de => .decDE
  | .hl => .decHL
  | .sp => .decSP

/-- `LD r,r'` (42_loads.md R180): destination, source. -/
def Instr.ldRegReg : Reg8 → Reg8 → Instr
  | .b, .b => .ldBB
  | .b, .c => .ldBC
  | .b, .d => .ldBD
  | .b, .e => .ldBE
  | .b, .h => .ldBH
  | .b, .l => .ldBL
  | .b, .a => .ldBA
  | .c, .b => .ldCB
  | .c, .c => .ldCC
  | .c, .d => .ldCD
  | .c, .e => .ldCE
  | .c, .h => .ldCH
  | .c, .l => .ldCL
  | .c, .a => .ldCA
  | .d, .b => .ldDB
  | .d, .c => .ldDC
  | .d, .d => .ldDD
  | .d, .e => .ldDE
  | .d, .h => .ldDH
  | .d, .l => .ldDL
  | .d, .a => .ldDA
  | .e, .b => .ldEB
  | .e, .c => .ldEC
  | .e, .d => .ldED
  | .e, .e => .ldEE
  | .e, .h => .ldEH
  | .e, .l => .ldEL
  | .e, .a => .ldEA
  | .h, .b => .ldHB
  | .h, .c => .ldHC
  | .h, .d => .ldHD
  | .h, .e => .ldHE
  | .h, .h => .ldHH
  | .h, .l => .ldHL
  | .h, .a => .ldHA
  | .l, .b => .ldLB
  | .l, .c => .ldLC
  | .l, .d => .ldLD
  | .l, .e => .ldLE
  | .l, .h => .ldLH
  | .l, .l => .ldLL
  | .l, .a => .ldLA
  | .a, .b => .ldAB
  | .a, .c => .ldAC
  | .a, .d => .ldAD
  | .a, .e => .ldAE
  | .a, .h => .ldAH
  | .a, .l => .ldAL
  | .a, .a => .ldAA

/-- `LD r,(HL)` (42_loads.md R181). -/
def Instr.ldRegInd : Reg8 → Instr
  | .b => .ldBIndHL
  | .c => .ldCIndHL
  | .d => .ldDIndHL
  | .e => .ldEIndHL
  | .h => .ldHIndHL
  | .l => .ldLIndHL
  | .a => .ldAIndHL

/-- `LD (HL),r` (42_loads.md R182). -/
def Instr.ldIndReg : Reg8 → Instr
  | .b => .ldIndHLB
  | .c => .ldIndHLC
  | .d => .ldIndHLD
  | .e => .ldIndHLE
  | .h => .ldIndHLH
  | .l => .ldIndHLL
  | .a => .ldIndHLA

/-- `LD r,d8` (42_loads.md R183). -/
def Instr.ldRegImm : Reg8 → Byte → Instr
  | .b, n => .ldBd8 n
  | .c, n => .ldCd8 n
  | .d, n => .ldDd8 n
  | .e, n => .ldEd8 n
  | .h, n => .ldHd8 n
  | .l, n => .ldLd8 n
  | .a, n => .ldAd8 n

/-- `LD (HL),d8` (42_loads.md R184). -/
def Instr.ldIndImm (n : Byte) : Instr := .ldIndHLd8 n

/-- `LD rr,d16`, `LD SP,d16` (42_loads.md R185, R186). -/
def Instr.ldPairImm : RegPair → Word → Instr
  | .bc, n => .ldBCd16 n
  | .de, n => .ldDEd16 n
  | .hl, n => .ldHLd16 n
  | .sp, n => .ldSPd16 n

/-- `LD A,(BC)` and its kin (42_loads.md R187, R188, R191, R192, R195, R197). -/
def Instr.loadAcc : AccMode → Instr
  | .indBC => .ldAIndBC
  | .indDE => .ldAIndDE
  | .hlInc => .ldAIndHLInc
  | .hlDec => .ldAIndHLDec
  | .abs addr => .ldAAbs addr
  | .highC => .ldAHighC

/-- `LD (BC),A` and its kin (42_loads.md R189, R190, R193, R194, R196, R198). -/
def Instr.storeAcc : AccMode → Instr
  | .indBC => .ldIndBCA
  | .indDE => .ldIndDEA
  | .hlInc => .ldIndHLIncA
  | .hlDec => .ldIndHLDecA
  | .abs addr => .ldAbsA addr
  | .highC => .ldHighCA

/-- `PUSH qq`, `PUSH AF` (43_stack.md R232 to R235). -/
def Instr.push : Pair → Instr
  | .bc => .pushBC
  | .de => .pushDE
  | .hl => .pushHL
  | .af => .pushAF

/-- `POP qq`, `POP AF` (43_stack.md R232 to R235). -/
def Instr.pop : Pair → Instr
  | .bc => .popBC
  | .de => .popDE
  | .hl => .popHL
  | .af => .popAF

/-! ### The fields and operand tables -/

/-- `x = op[7:6]` (30_encoding.md R81). -/
def fieldX (op : Byte) : Nat := (op.extractLsb' 6 2).toNat
/-- `y = op[5:3]`. -/
def fieldY (op : Byte) : Nat := (op.extractLsb' 3 3).toNat
/-- `z = op[2:0]`. -/
def fieldZ (op : Byte) : Nat := (op.extractLsb' 0 3).toNat
/-- `p = op[5:4]`. -/
def fieldP (op : Byte) : Nat := (op.extractLsb' 4 2).toNat
/-- `q = op[3]`. -/
def fieldQ (op : Byte) : Nat := (op.extractLsb' 3 1).toNat

/-- `r8[c]` (30_encoding.md R82). -/
def tableR8 : Nat → Operand8
  | 0 => .reg .b
  | 1 => .reg .c
  | 2 => .reg .d
  | 3 => .reg .e
  | 4 => .reg .h
  | 5 => .reg .l
  | 6 => .indHL
  | _ => .reg .a

/-- `rp[p]` (30_encoding.md R83). -/
def tableRp : Nat → RegPair
  | 0 => .bc
  | 1 => .de
  | 2 => .hl
  | _ => .sp

/-- `rp2[p]` (30_encoding.md R84). -/
def tableRp2 : Nat → Pair
  | 0 => .bc
  | 1 => .de
  | 2 => .hl
  | _ => .af

/-- `alu[y]` (30_encoding.md R85). -/
def tableAlu : Nat → AluOp
  | 0 => .add
  | 1 => .adc
  | 2 => .sub
  | 3 => .sbc
  | 4 => .and
  | 5 => .xor
  | 6 => .or
  | _ => .cp

/-! ### The opcode table -/

/-- What the fixed 256-entry table holds for a byte (40_step_cycle.md R110, item 2): the instruction, with the operand
bytes it still needs (30_encoding.md R80: formats OP, OP_D8, OP_D16), or nothing. -/
inductive Slot where
  | op (i : Instr)
  | opD8 (k : Byte → Instr)
  | opD16 (k : Word → Instr)
  | invalid

/-- The rows of 30_encoding.md R88 with `x` = 0. -/
def lookupX0 (op : Byte) : Slot :=
  match fieldZ op, fieldQ op with
  | 0, _ => if fieldY op = 0 then .op .nop else .invalid
  | 1, 0 => .opD16 (Instr.ldPairImm (tableRp (fieldP op)))
  | 1, _ => .invalid
  | 2, 0 =>
    match fieldP op with
    | 0 => .op (Instr.storeAcc .indBC)
    | 1 => .op (Instr.storeAcc .indDE)
    | 2 => .op (Instr.storeAcc .hlInc)
    | _ => .op (Instr.storeAcc .hlDec)
  | 2, _ =>
    match fieldP op with
    | 0 => .op (Instr.loadAcc .indBC)
    | 1 => .op (Instr.loadAcc .indDE)
    | 2 => .op (Instr.loadAcc .hlInc)
    | _ => .op (Instr.loadAcc .hlDec)
  | 3, 0 => .op (Instr.inc16 (tableRp (fieldP op)))
  | 3, _ => .op (Instr.dec16 (tableRp (fieldP op)))
  | 4, _ => .op (Instr.inc8 (tableR8 (fieldY op)))
  | 5, _ => .op (Instr.dec8 (tableR8 (fieldY op)))
  | 6, _ =>
    match tableR8 (fieldY op) with
    | .reg r => .opD8 (Instr.ldRegImm r)
    | .indHL => .opD8 Instr.ldIndImm
  | _, _ => .invalid

/-- The rows of 30_encoding.md R88 with `x` = 1; the slot of `LD (HL),(HL)` is invalid (42_loads.md R202). -/
def lookupX1 (op : Byte) : Slot :=
  match tableR8 (fieldY op), tableR8 (fieldZ op) with
  | .reg dst, .reg src => .op (Instr.ldRegReg dst src)
  | .reg dst, .indHL => .op (Instr.ldRegInd dst)
  | .indHL, .reg src => .op (Instr.ldIndReg src)
  | .indHL, .indHL => .invalid

/-- The rows of 30_encoding.md R88 with `x` = 2. -/
def lookupX2 (op : Byte) : Slot :=
  match tableR8 (fieldZ op) with
  | .reg r => .op (Instr.alu (tableAlu (fieldY op)) (.reg r))
  | .indHL => .op (Instr.alu (tableAlu (fieldY op)) .indHL)

/-- The rows of 30_encoding.md R88 with `x` = 3. -/
def lookupX3 (op : Byte) : Slot :=
  match fieldZ op, fieldQ op with
  | 1, 0 => .op (Instr.pop (tableRp2 (fieldP op)))
  | 2, _ =>
    match fieldY op with
    | 4 => .op (Instr.storeAcc .highC)
    | 5 => .opD16 (fun addr => Instr.storeAcc (.abs addr))
    | 6 => .op (Instr.loadAcc .highC)
    | 7 => .opD16 (fun addr => Instr.loadAcc (.abs addr))
    | _ => .invalid
  | 5, 0 => .op (Instr.push (tableRp2 (fieldP op)))
  | 6, _ => .opD8 (fun n => Instr.alu (tableAlu (fieldY op)) (.imm n))
  | _, _ => .invalid

/-- The opcode table (30_encoding.md R88): a function of the byte alone (R92). -/
def lookup (op : Byte) : Slot :=
  match fieldX op with
  | 0 => lookupX0 op
  | 1 => lookupX1 op
  | 2 => lookupX2 op
  | _ => lookupX3 op

/-- Why a list of bytes is no instruction: it is too short. Every byte value decodes, an invalid one to `.invalid`. -/
inductive DecodeError where
  /-- There is no opcode byte. -/
  | noOpcode
  /-- The list ends inside the operand bytes of the opcode `op`. -/
  | truncated (op : Byte)
  deriving DecidableEq, Repr

/-- Read one instruction off a list of bytes and give the bytes after it. Immediates are little-endian (30_encoding.md
R87; 20_memory.md R56). An invalid byte is one byte long: no byte after it is read (R91, R93). -/
def decode : List Byte → Except DecodeError (Instr × List Byte)
  | [] => .error .noOpcode
  | op :: rest =>
    match lookup op, rest with
    | .op i, rest => .ok (i, rest)
    | .opD8 k, n :: rest => .ok (k n, rest)
    | .opD16 k, lo :: hi :: rest => .ok (k (hi ++ lo), rest)
    | .invalid, rest => .ok (.invalid op, rest)
    | _, _ => .error (.truncated op)

/-- The three bytes, first byte first, of an instruction whose bits are numbered as the opcode table numbers them; the
bits from `nbits` on are 0 (log 10). -/
def tableWordBytes (nbits w : Nat) : List Byte :=
  let v := w % 2 ^ nbits
  [BitVec.ofNat 8 v, BitVec.ofNat 8 (v / 256), BitVec.ofNat 8 (v / 65536)]

/-- The instruction the decoder reads from a word of the opcode table. -/
def decodeTableWord (nbits w : Nat) : Option Instr :=
  match decode (tableWordBytes nbits w) with
  | .ok (i, _) => some i
  | .error _ => none

/-- Length in bytes as the opcode byte sets it (30_encoding.md R93); of an invalid byte one byte is fetched. -/
def opcodeLength (op : Byte) : Nat :=
  if op ∈ [0x01#8, 0x11#8, 0x21#8, 0x31#8, 0xEA#8, 0xFA#8] then 3
  else if op ∈ [0x06#8, 0x0E#8, 0x16#8, 0x1E#8, 0x26#8, 0x2E#8, 0x36#8, 0x3E#8, 0xC6#8, 0xCE#8, 0xD6#8, 0xDE#8, 0xE6#8,
      0xEE#8, 0xF6#8, 0xFE#8] then 2
  else 1

/-! ### The encoder -/

/-- The bytes of an instruction, opcode first (30_encoding.md R80, R97). -/
def encode : Instr → List Byte
  | .nop => [0x00#8]
  | .ldBCd16 n => [0x01#8, n.extractLsb' 0 8, n.extractLsb' 8 8]
  | .ldIndBCA => [0x02#8]
  | .incBC => [0x03#8]
  | .incB => [0x04#8]
  | .decB => [0x05#8]
  | .ldBd8 n => [0x06#8, n]
  | .ldAIndBC => [0x0A#8]
  | .decBC => [0x0B#8]
  | .incC => [0x0C#8]
  | .decC => [0x0D#8]
  | .ldCd8 n => [0x0E#8, n]
  | .ldDEd16 n => [0x11#8, n.extractLsb' 0 8, n.extractLsb' 8 8]
  | .ldIndDEA => [0x12#8]
  | .incDE => [0x13#8]
  | .incD => [0x14#8]
  | .decD => [0x15#8]
  | .ldDd8 n => [0x16#8, n]
  | .ldAIndDE => [0x1A#8]
  | .decDE => [0x1B#8]
  | .incE => [0x1C#8]
  | .decE => [0x1D#8]
  | .ldEd8 n => [0x1E#8, n]
  | .ldHLd16 n => [0x21#8, n.extractLsb' 0 8, n.extractLsb' 8 8]
  | .ldIndHLIncA => [0x22#8]
  | .incHL => [0x23#8]
  | .incH => [0x24#8]
  | .decH => [0x25#8]
  | .ldHd8 n => [0x26#8, n]
  | .ldAIndHLInc => [0x2A#8]
  | .decHL => [0x2B#8]
  | .incL => [0x2C#8]
  | .decL => [0x2D#8]
  | .ldLd8 n => [0x2E#8, n]
  | .ldSPd16 n => [0x31#8, n.extractLsb' 0 8, n.extractLsb' 8 8]
  | .ldIndHLDecA => [0x32#8]
  | .incSP => [0x33#8]
  | .incIndHL => [0x34#8]
  | .decIndHL => [0x35#8]
  | .ldIndHLd8 n => [0x36#8, n]
  | .ldAIndHLDec => [0x3A#8]
  | .decSP => [0x3B#8]
  | .incA => [0x3C#8]
  | .decA => [0x3D#8]
  | .ldAd8 n => [0x3E#8, n]
  | .ldBB => [0x40#8]
  | .ldBC => [0x41#8]
  | .ldBD => [0x42#8]
  | .ldBE => [0x43#8]
  | .ldBH => [0x44#8]
  | .ldBL => [0x45#8]
  | .ldBIndHL => [0x46#8]
  | .ldBA => [0x47#8]
  | .ldCB => [0x48#8]
  | .ldCC => [0x49#8]
  | .ldCD => [0x4A#8]
  | .ldCE => [0x4B#8]
  | .ldCH => [0x4C#8]
  | .ldCL => [0x4D#8]
  | .ldCIndHL => [0x4E#8]
  | .ldCA => [0x4F#8]
  | .ldDB => [0x50#8]
  | .ldDC => [0x51#8]
  | .ldDD => [0x52#8]
  | .ldDE => [0x53#8]
  | .ldDH => [0x54#8]
  | .ldDL => [0x55#8]
  | .ldDIndHL => [0x56#8]
  | .ldDA => [0x57#8]
  | .ldEB => [0x58#8]
  | .ldEC => [0x59#8]
  | .ldED => [0x5A#8]
  | .ldEE => [0x5B#8]
  | .ldEH => [0x5C#8]
  | .ldEL => [0x5D#8]
  | .ldEIndHL => [0x5E#8]
  | .ldEA => [0x5F#8]
  | .ldHB => [0x60#8]
  | .ldHC => [0x61#8]
  | .ldHD => [0x62#8]
  | .ldHE => [0x63#8]
  | .ldHH => [0x64#8]
  | .ldHL => [0x65#8]
  | .ldHIndHL => [0x66#8]
  | .ldHA => [0x67#8]
  | .ldLB => [0x68#8]
  | .ldLC => [0x69#8]
  | .ldLD => [0x6A#8]
  | .ldLE => [0x6B#8]
  | .ldLH => [0x6C#8]
  | .ldLL => [0x6D#8]
  | .ldLIndHL => [0x6E#8]
  | .ldLA => [0x6F#8]
  | .ldIndHLB => [0x70#8]
  | .ldIndHLC => [0x71#8]
  | .ldIndHLD => [0x72#8]
  | .ldIndHLE => [0x73#8]
  | .ldIndHLH => [0x74#8]
  | .ldIndHLL => [0x75#8]
  | .ldIndHLA => [0x77#8]
  | .ldAB => [0x78#8]
  | .ldAC => [0x79#8]
  | .ldAD => [0x7A#8]
  | .ldAE => [0x7B#8]
  | .ldAH => [0x7C#8]
  | .ldAL => [0x7D#8]
  | .ldAIndHL => [0x7E#8]
  | .ldAA => [0x7F#8]
  | .addAB => [0x80#8]
  | .addAC => [0x81#8]
  | .addAD => [0x82#8]
  | .addAE => [0x83#8]
  | .addAH => [0x84#8]
  | .addAL => [0x85#8]
  | .addAIndHL => [0x86#8]
  | .addAA => [0x87#8]
  | .adcAB => [0x88#8]
  | .adcAC => [0x89#8]
  | .adcAD => [0x8A#8]
  | .adcAE => [0x8B#8]
  | .adcAH => [0x8C#8]
  | .adcAL => [0x8D#8]
  | .adcAIndHL => [0x8E#8]
  | .adcAA => [0x8F#8]
  | .subAB => [0x90#8]
  | .subAC => [0x91#8]
  | .subAD => [0x92#8]
  | .subAE => [0x93#8]
  | .subAH => [0x94#8]
  | .subAL => [0x95#8]
  | .subAIndHL => [0x96#8]
  | .subAA => [0x97#8]
  | .sbcAB => [0x98#8]
  | .sbcAC => [0x99#8]
  | .sbcAD => [0x9A#8]
  | .sbcAE => [0x9B#8]
  | .sbcAH => [0x9C#8]
  | .sbcAL => [0x9D#8]
  | .sbcAIndHL => [0x9E#8]
  | .sbcAA => [0x9F#8]
  | .andAB => [0xA0#8]
  | .andAC => [0xA1#8]
  | .andAD => [0xA2#8]
  | .andAE => [0xA3#8]
  | .andAH => [0xA4#8]
  | .andAL => [0xA5#8]
  | .andAIndHL => [0xA6#8]
  | .andAA => [0xA7#8]
  | .xorAB => [0xA8#8]
  | .xorAC => [0xA9#8]
  | .xorAD => [0xAA#8]
  | .xorAE => [0xAB#8]
  | .xorAH => [0xAC#8]
  | .xorAL => [0xAD#8]
  | .xorAIndHL => [0xAE#8]
  | .xorAA => [0xAF#8]
  | .orAB => [0xB0#8]
  | .orAC => [0xB1#8]
  | .orAD => [0xB2#8]
  | .orAE => [0xB3#8]
  | .orAH => [0xB4#8]
  | .orAL => [0xB5#8]
  | .orAIndHL => [0xB6#8]
  | .orAA => [0xB7#8]
  | .cpAB => [0xB8#8]
  | .cpAC => [0xB9#8]
  | .cpAD => [0xBA#8]
  | .cpAE => [0xBB#8]
  | .cpAH => [0xBC#8]
  | .cpAL => [0xBD#8]
  | .cpAIndHL => [0xBE#8]
  | .cpAA => [0xBF#8]
  | .popBC => [0xC1#8]
  | .pushBC => [0xC5#8]
  | .addAd8 n => [0xC6#8, n]
  | .adcAd8 n => [0xCE#8, n]
  | .popDE => [0xD1#8]
  | .pushDE => [0xD5#8]
  | .subAd8 n => [0xD6#8, n]
  | .sbcAd8 n => [0xDE#8, n]
  | .popHL => [0xE1#8]
  | .ldHighCA => [0xE2#8]
  | .pushHL => [0xE5#8]
  | .andAd8 n => [0xE6#8, n]
  | .ldAbsA addr => [0xEA#8, addr.extractLsb' 0 8, addr.extractLsb' 8 8]
  | .xorAd8 n => [0xEE#8, n]
  | .popAF => [0xF1#8]
  | .ldAHighC => [0xF2#8]
  | .pushAF => [0xF5#8]
  | .orAd8 n => [0xF6#8, n]
  | .ldAAbs addr => [0xFA#8, addr.extractLsb' 0 8, addr.extractLsb' 8 8]
  | .cpAd8 n => [0xFE#8, n]
  | .invalid op => [op]

end Sys2Proof
end

