-- ==== Sys2Proof/Machine/Fetch.lean ====
section
/-! DEFINITION. Items 1 to 3 of the step (40_step_cycle.md R110): fetch the opcode byte, look it up in the table, fetch
the operand bytes it needs. -/

namespace Sys2Proof.Machine

/-- The instruction at PC, and the state after its bytes were fetched: PC is one further for every byte read (R110, R111,
R112). After an invalid byte no further byte is read (30_encoding.md R91). Log 4: the operand bytes are fetched here and
carried in the instruction. -/
def fetchInstr (s : State) : Instr × State :=
  let op := s.fetch8
  match lookup op.1 with
  | .op i => (i, op.2)
  | .opD8 k =>
    let n := op.2.fetch8
    (k n.1, n.2)
  | .opD16 k =>
    let n := op.2.fetch16
    (k n.1, n.2)
  | .invalid => (.invalid op.1, op.2)

/-- Write consecutive bytes from an address on, modulo 65536: host writes (20_memory.md R69). -/
def State.writeBytes (s : State) (addr : Word) : List Byte → State
  | [] => s
  | v :: rest => State.writeBytes (s.writeByte addr v) (addr + 1#16) rest

end Sys2Proof.Machine
end

