-- ==== Sys2Proof/Machine/Step.lean ====
section
/-! DEFINITION. One step (40_step_cycle.md R110, R114), and the placing of an instruction where the step fetches. -/

namespace Sys2Proof.Machine

/-- `step()`: fetch and decode the instruction at PC, then perform it with PC past its bytes. Host writes between steps
are no part of it (log 9). -/
def step (s : State) : Host.Outcome State Fault Refusal :=
  let fetched := fetchInstr s
  exec fetched.1 fetched.2

/-- The state with an instruction of the opcode table's numbering stored at PC by host writes (70_reset_and_hazards.md
R284; log 10): three bytes, the longest instruction. -/
def State.withFetchWord (s : State) (nbits w : Nat) : State := s.writeBytes s.pc (tableWordBytes nbits w)

end Sys2Proof.Machine
end

