-- ==== Sys2Proof/Machine/Boot.lean ====
section
/-! DEFINITION. Boot (70_reset_and_hazards.md R280, R281), with the bus's zero fill (20_memory.md R55) and image load
(R54), and the loader's report RomLoadFailure (60_exceptions.md R251, R256). -/

namespace Sys2Proof.Machine

/-- Write pairs of address and byte in order. -/
def Memory.writePairs (m : Memory) : List (Nat × Byte) → Memory
  | [] => m
  | (addr, v) :: rest => Memory.writePairs (Memory.write m addr v) rest

/-- `reset()` of the bus (20_memory.md R55): every byte 0x00. Only the addresses whose reset contents are not 0 need a
write. -/
def Memory.zeroFilled : Memory := Memory.writePairs [] (Config.postBoot.map fun cell => (cell.1, 0x00#8))

/-- Copy bytes to consecutive addresses from `addr` on. -/
def Memory.copyFrom (m : Memory) (addr : Nat) : List Byte → Memory
  | [] => m
  | v :: rest => Memory.copyFrom (Memory.write m addr v) (addr + 1) rest

/-- `loadImage(bytes)` (20_memory.md R54): the first 0x8000 bytes at most, to address 0x0000 and up. -/
def Memory.loadImage (m : Memory) (bytes : List Byte) : Memory := Memory.copyFrom m 0 (bytes.take Config.imageLimit)

/-- The bus operation `reset()` on a machine: memory only (20_memory.md R55; 70_reset_and_hazards.md R281). -/
def State.busReset (s : State) : State := { s with mem := Memory.zeroFilled }

/-- What the loader was given (70_reset_and_hazards.md R280, item 4; D17; log 11). -/
inductive ImageSource where
  | absent
  | bytes (image : List Byte)
  | unreadable
  deriving DecidableEq, Repr

/-- The one error of the loader boundary (60_exceptions.md R251): reported to the host, recorded nowhere in the
machine. -/
inductive LoadError where
  | romLoadFailure
  deriving DecidableEq, Repr

/-- What boot gives the host: the initial state, and the report if the image could not be read. -/
structure BootReport where
  state : State
  loadError : Option LoadError
  deriving DecidableEq, Repr

/-- Item 4 of boot: on a failure no byte of memory changes (20_memory.md R54; D17). -/
def Memory.loadSource (m : Memory) : ImageSource → Memory × Option LoadError
  | .absent => (m, none)
  | .bytes image => (m.loadImage image, none)
  | .unreadable => (m, some .romLoadFailure)

/-- The boot sequence (70_reset_and_hazards.md R280): zero fill; PC, SP and RESET_REGS; the image if one is given; the
post-boot table. The only way to make an initial state (R281). -/
def boot (regs : Config.ResetRegs) (source : ImageSource) : BootReport :=
  let loaded := Memory.loadSource Memory.zeroFilled source
  ⟨State.ofBoot regs (Memory.writePairs loaded.1 Config.postBoot), loaded.2⟩

end Sys2Proof.Machine
end

