-- ==== Sys2Proof/Machine/Bus.lean ====
section
/-! DEFINITION. The bus accesses of a step, in order (20_memory.md R59; 40_step_cycle.md R119; D18, log 17). The step
itself (Machine/Step.lean) does not use this list; it is what the bus sees of the step. -/

namespace Sys2Proof.Machine

/-- One access of one byte (20_memory.md R59). -/
inductive BusAccess where
  | read (addr : Word)
  | write (addr : Word) (v : Byte)
  deriving DecidableEq, Repr

/-- The data accesses of an instruction, in order, in the state after its bytes were fetched (40_step_cycle.md R119,
item 3). -/
def dataAccesses (i : Instr) (s : State) : List BusAccess :=
  match i with
  | .nop | .ldBCd16 _ | .incBC | .incB | .decB | .ldBd8 _ | .decBC | .incC | .decC | .ldCd8 _
  | .ldDEd16 _ | .incDE | .incD | .decD | .ldDd8 _ | .decDE | .incE | .decE | .ldEd8 _ | .ldHLd16 _
  | .incHL | .incH | .decH | .ldHd8 _ | .decHL | .incL | .decL | .ldLd8 _ | .ldSPd16 _ | .incSP | .decSP
  | .incA | .decA | .ldAd8 _ | .ldBB | .ldBC | .ldBD | .ldBE | .ldBH | .ldBL | .ldBA | .ldCB | .ldCC
  | .ldCD | .ldCE | .ldCH | .ldCL | .ldCA | .ldDB | .ldDC | .ldDD | .ldDE | .ldDH | .ldDL | .ldDA
  | .ldEB | .ldEC | .ldED | .ldEE | .ldEH | .ldEL | .ldEA | .ldHB | .ldHC | .ldHD | .ldHE | .ldHH
  | .ldHL | .ldHA | .ldLB | .ldLC | .ldLD | .ldLE | .ldLH | .ldLL | .ldLA | .ldAB | .ldAC | .ldAD
  | .ldAE | .ldAH | .ldAL | .ldAA | .addAB | .addAC | .addAD | .addAE | .addAH | .addAL | .addAA
  | .adcAB | .adcAC | .adcAD | .adcAE | .adcAH | .adcAL | .adcAA | .subAB | .subAC | .subAD | .subAE
  | .subAH | .subAL | .subAA | .sbcAB | .sbcAC | .sbcAD | .sbcAE | .sbcAH | .sbcAL | .sbcAA | .andAB
  | .andAC | .andAD | .andAE | .andAH | .andAL | .andAA | .xorAB | .xorAC | .xorAD | .xorAE | .xorAH
  | .xorAL | .xorAA | .orAB | .orAC | .orAD | .orAE | .orAH | .orAL | .orAA | .cpAB | .cpAC | .cpAD
  | .cpAE | .cpAH | .cpAL | .cpAA | .addAd8 _ | .adcAd8 _ | .subAd8 _ | .sbcAd8 _ | .andAd8 _
  | .xorAd8 _ | .orAd8 _ | .cpAd8 _ | .invalid _ => []
  | .ldIndBCA => [.write (s.effAddr .indBC) s.a]
  | .ldAIndBC => [.read (s.effAddr .indBC)]
  | .ldIndDEA => [.write (s.effAddr .indDE) s.a]
  | .ldAIndDE => [.read (s.effAddr .indDE)]
  | .ldIndHLIncA => [.write (s.effAddr .hlInc) s.a]
  | .ldAIndHLInc => [.read (s.effAddr .hlInc)]
  | .ldIndHLDecA => [.write (s.effAddr .hlDec) s.a]
  | .incIndHL => [.read s.hl, .write s.hl (inc8 (s.readByte s.hl) s.f).result]
  | .decIndHL => [.read s.hl, .write s.hl (dec8 (s.readByte s.hl) s.f).result]
  | .ldIndHLd8 n => [.write s.hl n]
  | .ldAIndHLDec => [.read (s.effAddr .hlDec)]
  | .ldBIndHL | .ldCIndHL | .ldDIndHL | .ldEIndHL | .ldHIndHL | .ldLIndHL | .ldAIndHL | .addAIndHL
  | .adcAIndHL | .subAIndHL | .sbcAIndHL | .andAIndHL | .xorAIndHL | .orAIndHL | .cpAIndHL => [.read s.hl]
  | .ldIndHLB => [.write s.hl s.b]
  | .ldIndHLC => [.write s.hl s.c]
  | .ldIndHLD => [.write s.hl s.d]
  | .ldIndHLE => [.write s.hl s.e]
  | .ldIndHLH => [.write s.hl s.h]
  | .ldIndHLL => [.write s.hl s.l]
  | .ldIndHLA => [.write s.hl s.a]
  | .popBC | .popDE | .popHL | .popAF => [.read s.sp, .read (s.sp + 1#16)]
  | .pushBC => [.write (s.sp - 1#16) s.b, .write (s.sp - 2#16) s.c]
  | .pushDE => [.write (s.sp - 1#16) s.d, .write (s.sp - 2#16) s.e]
  | .ldHighCA => [.write (s.effAddr .highC) s.a]
  | .pushHL => [.write (s.sp - 1#16) s.h, .write (s.sp - 2#16) s.l]
  | .ldAbsA addr => [.write (s.effAddr (.abs addr)) s.a]
  | .ldAHighC => [.read (s.effAddr .highC)]
  | .pushAF => [.write (s.sp - 1#16) s.a, .write (s.sp - 2#16) s.f]
  | .ldAAbs addr => [.read (s.effAddr (.abs addr))]

/-- The reads of the instruction's own bytes, at PC and up (40_step_cycle.md R119, items 1 and 2). -/
def fetchAccesses (s : State) : List BusAccess :=
  (List.range (opcodeLength (s.readByte s.pc))).map fun k => .read (s.pc + BitVec.ofNat 16 k)

/-- All accesses of a step, in order (40_step_cycle.md R119). -/
def stepAccesses (s : State) : List BusAccess :=
  let fetched := fetchInstr s
  fetchAccesses s ++ dataAccesses fetched.1 fetched.2

/-- The memory after the writes of a list of accesses, in order. -/
def State.afterAccesses (s : State) : List BusAccess → State
  | [] => s
  | .read _ :: rest => State.afterAccesses s rest
  | .write addr v :: rest => State.afterAccesses (s.writeByte addr v) rest

/-- Whether an access is a write to an address. -/
def BusAccess.writesTo (x : BusAccess) (addr : Word) : Bool :=
  match x with
  | .read _ => false
  | .write at_ _ => at_ == addr

end Sys2Proof.Machine
end

