-- ==== Sys2Proof/Machine/Session.lean ====
section
/-! DEFINITION. The host's side of a session: register queries (10_state.md R37), host reads and writes of memory
between steps (20_memory.md R69), and a run of steps under HOST_POLICY and STOP (40_step_cycle.md R115;
70_reset_and_hazards.md R289; 92_eei_decisions.md D10, D11). -/

namespace Sys2Proof.Machine

/-- What the host can read (10_state.md R37). -/
inductive Query where
  | a
  | f
  | b
  | c
  | d
  | e
  | h
  | l
  | sp
  | pc
  | pair (q : Pair)
  deriving DecidableEq, Repr

/-- A register query, as a number; it changes nothing (10_state.md R37). -/
def State.query (s : State) : Query → Nat
  | .a => s.a.toNat
  | .f => s.f.toNat
  | .b => s.b.toNat
  | .c => s.c.toNat
  | .d => s.d.toNat
  | .e => s.e.toNat
  | .h => s.h.toNat
  | .l => s.l.toNat
  | .sp => s.sp.toNat
  | .pc => s.pc.toNat
  | .pair q => (s.pair q).toNat

/-- A host read is `MemRead` (20_memory.md R69). -/
def State.hostRead (s : State) (addr : Word) : Byte := s.readByte addr

/-- Host writes, in order; each is `MemWrite` (20_memory.md R69). -/
def State.hostWrites (s : State) : List (Word × Byte) → State
  | [] => s
  | (addr, v) :: rest => State.hostWrites (s.writeByte addr v) rest

/-- HOST_POLICY (92_eei_decisions.md D10): the writes the host performs before a step, from the number of steps done and
the state. The empty policy writes nothing. -/
abbrev HostPolicy := Nat → State → List (Word × Byte)

/-- The policy of the spec's test vectors (92_eei_decisions.md D10). -/
def HostPolicy.empty : HostPolicy := fun _ _ => []

/-- STOP (92_eei_decisions.md D11; 70_reset_and_hazards.md R289). -/
inductive StopRule where
  | stepCount (n : Nat)
  | stopAddress (addr : Word)
  | untilFault
  deriving DecidableEq, Repr

/-- Whether the host stops, between steps. -/
def StopRule.holds (rule : StopRule) (steps : Nat) (s : State) : Bool :=
  match rule with
  | .stepCount n => steps == n
  | .stopAddress addr => s.pc == addr
  | .untilFault => false

/-- How a run ends: by the stop rule, by the fault (never a successful end, D6), or, of the model only, out of fuel
(log 16). -/
inductive RunResult where
  | stopped (steps : Nat) (s : State)
  | faulted (steps : Nat) (r : Fault)
  | refused (steps : Nat) (r : Refusal)
  | outOfFuel (steps : Nat) (s : State)
  deriving DecidableEq, Repr

/-- A run: the host writes, then steps, until it stops; after a fault no step is taken (60_exceptions.md R255, R257). -/
def runSession (policy : HostPolicy) (rule : StopRule) : (fuel steps : Nat) → State → RunResult
  | 0, steps, s => if rule.holds steps s then .stopped steps s else .outOfFuel steps s
  | fuel + 1, steps, s =>
    if rule.holds steps s then .stopped steps s
    else
      match step (s.hostWrites (policy steps s)) with
      | .next t => runSession policy rule fuel (steps + 1) t
      | .fault r => .faulted steps r
      | .refused r => .refused steps r

end Sys2Proof.Machine
end

