-- ==== Sys2Proof/Safety.lean ====
section
/-! DEFINITION. What a safe run is, in the terms the claims use. -/

namespace Sys2Proof.Machine

/-- The invariant of F: its low nibble is zero (10_state.md R25). -/
def State.fClean (s : State) : Bool := s.f &&& 0x0F#8 == 0x00#8

/-- The invariant every step keeps: F's low nibble is zero and memory is in its canonical form. -/
def State.inv (s : State) : Bool := s.fClean && s.mem.wf

/-- A run of `n` steps is safe when none of them faults. -/
def SafeRun (n : Nat) (s : State) : Prop := ∃ t, Host.Core.run Sys2Proof.core n s = .next t

end Sys2Proof.Machine
end

