-- ==== Sys2Proof/Certificates/Slice0/Obligations.lean ====
section
/-! DEFINITION. The statements for the provers. An instruction with operands is named by the functions of Decode.lean:
`Instr.alu .add (.reg .b)` is the constructor `addAB`, and so on for every operand. Statements about instructions rest on
the spec's own decisions D1 (opcode bytes) and D2 (accumulator); those are the spec's inferences, logs 2 and 3. -/

open Sys2Proof Sys2Proof.Machine

/-! ### Encoding -/

/-- 30_encoding.md R80, R88: decoding the bytes of a well-formed instruction, whatever follows them, gives it back with
every operand. -/
def Obligations.DecodeOfEncodeGivesBackTheInstruction : Prop :=
  ∀ (i : Instr) (rest : List Byte), i.wellFormed = true → decode (encode i ++ rest) = .ok (i, rest)

/-- 30_encoding.md R88, R90: bytes that decode are the encoding of what they decode to, and that is well-formed. -/
def Obligations.EncodeOfDecodeGivesBackTheBytes : Prop :=
  ∀ (bs : List Byte) (i : Instr) (rest : List Byte), decode bs = .ok (i, rest) →
    i.wellFormed = true ∧ encode i ++ rest = bs

/-- 30_encoding.md R93 (on the opcode map of D1): the opcode byte alone sets how many bytes are taken, and a list that
ends inside the instruction is rejected by name. -/
def Obligations.OpcodeByteSetsTheLength : Prop :=
  (∀ op ∈ [0x01#8, 0x11#8, 0x21#8, 0x31#8, 0xEA#8, 0xFA#8],
    (∀ n1 n2 rest, ∃ i, decode (op :: n1 :: n2 :: rest) = .ok (i, rest)) ∧
    (∀ n1, decode [op, n1] = .error (.truncated op)) ∧ decode [op] = .error (.truncated op)) ∧
  (∀ op ∈ [0x06#8, 0x0E#8, 0x16#8, 0x1E#8, 0x26#8, 0x2E#8, 0x36#8, 0x3E#8, 0xC6#8, 0xCE#8, 0xD6#8, 0xDE#8, 0xE6#8,
      0xEE#8, 0xF6#8, 0xFE#8],
    (∀ n rest, ∃ i, decode (op :: n :: rest) = .ok (i, rest)) ∧ decode [op] = .error (.truncated op)) ∧
  (∀ op : Byte,
    op ∉ [0x01#8, 0x11#8, 0x21#8, 0x31#8, 0xEA#8, 0xFA#8] →
    op ∉ [0x06#8, 0x0E#8, 0x16#8, 0x1E#8, 0x26#8, 0x2E#8, 0x36#8, 0x3E#8, 0xC6#8, 0xCE#8, 0xD6#8, 0xDE#8, 0xE6#8,
      0xEE#8, 0xF6#8, 0xFE#8] →
    ∀ rest, ∃ i, decode (op :: rest) = .ok (i, rest))

/-- 30_encoding.md R89 (decision D3): the 64 listed bytes, and no other, decode to the invalid instruction, which takes
no byte after the opcode. -/
def Obligations.InvalidBytesAreTheListedSixtyFour : Prop :=
  invalidOpcodes.length = 64 ∧ invalidOpcodes.Nodup ∧
  ∀ (op : Byte) (rest : List Byte),
    (decode (op :: rest) = .ok (.invalid op, rest) ↔ op ∈ invalidOpcodes) ∧
    ∀ bad rest', decode (op :: rest) = .ok (.invalid bad, rest') → bad = op ∧ rest' = rest

/-- 30_encoding.md R96: the encodings the source itself shows. That the bytes decode to the invalid instruction is R89,
for 0xCB with R91 (decision D3, log 2: of the 64 the source shows 0xD3 only). -/
def Obligations.BytesTheSourceShowsRunAsShown : Prop :=
  (∀ s : State, s.readByte s.pc = 0x3E#8 → s.readByte (s.pc + 1#16) = 0x42#8 →
    ∃ t, step s = .next t ∧ t.a = 0x42#8 ∧ t.pc = s.pc + 2#16) ∧
  (∀ s : State, s.readByte s.pc = 0x06#8 → s.readByte (s.pc + 1#16) = 0x99#8 →
    ∃ t, step s = .next t ∧ t.b = 0x99#8 ∧ t.pc = s.pc + 2#16) ∧
  (∀ s : State, s.readByte s.pc = 0x00#8 → ∃ t, step s = .next t ∧ t.pc = s.pc + 1#16) ∧
  (∀ n rest, decode (0x3E#8 :: n :: rest) = .ok (.ldAd8 n, rest) ∧ decode (0x06#8 :: n :: rest) = .ok (.ldBd8 n, rest)) ∧
  (∀ rest, decode (0x00#8 :: rest) = .ok (.nop, rest) ∧ decode (0x2A#8 :: rest) = .ok (.ldAIndHLInc, rest) ∧
    decode (0xD3#8 :: rest) = .ok (.invalid 0xD3#8, rest) ∧ decode (0xCB#8 :: rest) = .ok (.invalid 0xCB#8, rest)) ∧
  (fieldX 0x3E#8 = 0 ∧ fieldY 0x3E#8 = 7 ∧ fieldZ 0x3E#8 = 6) ∧
  (fieldX 0x06#8 = 0 ∧ fieldY 0x06#8 = 0 ∧ fieldZ 0x06#8 = 6) ∧
  (fieldX 0x2A#8 = 0 ∧ fieldP 0x2A#8 = 2 ∧ fieldQ 0x2A#8 = 1 ∧ fieldZ 0x2A#8 = 2)

/-- 30_encoding.md R97 (D1): one word of each family, written out from the grid. -/
def Obligations.OneWordOfEachFamilyDecodes : Prop :=
  decode [0x00#8] = .ok (.nop, []) ∧ decode [0x47#8] = .ok (.ldBA, []) ∧ decode [0x5E#8] = .ok (.ldEIndHL, []) ∧
  decode [0x75#8] = .ok (.ldIndHLL, []) ∧ decode [0x36#8, 0xAB#8] = .ok (.ldIndHLd8 0xAB#8, []) ∧
  decode [0x21#8, 0x34#8, 0x12#8] = .ok (.ldHLd16 0x1234#16, []) ∧
  decode [0xEA#8, 0x34#8, 0xC2#8] = .ok (.ldAbsA 0xC234#16, []) ∧ decode [0xF2#8] = .ok (.ldAHighC, []) ∧
  decode [0x8B#8] = .ok (.adcAE, []) ∧ decode [0xBE#8] = .ok (.cpAIndHL, []) ∧
  decode [0xEE#8, 0xFF#8] = .ok (.xorAd8 0xFF#8, []) ∧ decode [0x34#8] = .ok (.incIndHL, []) ∧
  decode [0x3B#8] = .ok (.decSP, []) ∧ decode [0xF1#8] = .ok (.popAF, []) ∧ decode [0xC5#8] = .ok (.pushBC, []) ∧
  decode [0x76#8] = .ok (.invalid 0x76#8, [])

/-! ### The step -/

/-- 40_step_cycle.md R110: the three bytes at PC always decode, and a step is the execution of what they decode to, with
PC past the bytes it takes (log 4). -/
def Obligations.StepRunsTheDecodedInstruction : Prop :=
  ∀ s : State,
    (∃ i rest, decode [s.readByte s.pc, s.readByte (s.pc + 1#16), s.readByte (s.pc + 2#16)] = .ok (i, rest)) ∧
    ∀ i rest, decode [s.readByte s.pc, s.readByte (s.pc + 1#16), s.readByte (s.pc + 2#16)] = .ok (i, rest) →
      step s = exec i { s with pc := s.pc + BitVec.ofNat 16 (3 - rest.length) }

/-- 40_step_cycle.md R112: `Fetch16()`. -/
def Obligations.FetchSixteenIsLowByteFirst : Prop :=
  ∀ s : State,
    s.fetch16.1 = ((s.readByte (s.pc + 1#16)).setWidth 16 <<< 8) ||| (s.readByte s.pc).setWidth 16 ∧
    s.fetch16.2 = { s with pc := s.pc + 2#16 }

/-- 40_step_cycle.md R114, R117; 60_exceptions.md R250, R252, R255 (state and address at the fault: decision D5, log 5):
an admitted byte never faults and moves PC by exactly its length, and each of the 64 others raises InvalidOpcode with
that byte, its address, and a state in which PC alone has moved, by one. -/
def Obligations.AdmittedBytesStepAndInvalidBytesFault : Prop :=
  ∀ s : State,
    (s.readByte s.pc ∉ invalidOpcodes →
      ∃ t, step s = .next t ∧ t.pc = s.pc + BitVec.ofNat 16 (opcodeLength (s.readByte s.pc))) ∧
    (s.readByte s.pc ∈ invalidOpcodes →
      step s = .fault (.invalidOpcode (s.readByte s.pc) s.pc { s with pc := s.pc + 1#16 }))

/-- 60_exceptions.md R250, R255 (address and state: decision D5, log 5): the invalid byte stops with InvalidOpcode from
every state. -/
def Obligations.InvalidInstructionAlwaysFaults : Prop :=
  ∀ (op : Byte) (s : State), exec (.invalid op) s = .fault (.invalidOpcode op (s.pc - 1#16) s)

/-- The model's interface for a loaded program (log 10; 70_reset_and_hazards.md R284): a word placed where the machine
fetches is the instruction the next step runs. -/
def Obligations.PlacedWordIsTheNextInstructionRun : Prop :=
  ∀ (s : State) (nbits w : Nat), ∃ i, decodeTableWord nbits w = some i ∧
    step (s.withFetchWord nbits w) =
      exec i { s.withFetchWord nbits w with pc := s.pc + BitVec.ofNat 16 (encode i).length }

/-! ### Invariants -/

/-- 10_state.md R25: the low nibble of F is zero after boot, after every step, and after every write of F. That POP AF
takes F from the byte at SP is 43_stack.md R235 over R231, as corrected by conflict C1 (log 12). -/
def Obligations.LowNibbleOfFIsAlwaysZero : Prop :=
  State.reset.f &&& 0x0F#8 = 0#8 ∧
  (∀ regs source, (boot regs source).state.f &&& 0x0F#8 = 0#8) ∧
  (∀ s t : State, s.f &&& 0x0F#8 = 0#8 → step s = .next t → t.f &&& 0x0F#8 = 0#8) ∧
  (∀ (s : State) (o : AluOut), (s.setAcc o).f = o.flags &&& 0xF0#8) ∧
  (∀ (s : State) (fl : Flag) (b : Bool), (s.setFlag fl b).f &&& 0x0F#8 = 0#8) ∧
  (∀ (s : State) (v : Word), (s.setPair .af v).f = v.setWidth 8 &&& 0xF0#8) ∧
  (∀ s : State, ∃ t, exec .popAF s = .next t ∧ t.f = s.readByte s.sp &&& 0xF0#8)

/-- The model's representation (log 7): every step keeps memory in its canonical form. -/
def Obligations.EveryStepKeepsMemoryCanonical : Prop :=
  ∀ s t : State, s.mem.wf = true → step s = .next t → t.mem.wf = true

/-- The invariant (10_state.md R25; log 7) holds of every state boot can make, and of reset. -/
def Obligations.BootMeetsTheInvariant : Prop :=
  State.reset.inv = true ∧ ∀ regs source, (boot regs source).state.inv = true

/-! ### Registers, flags, memory -/

/-- 10_state.md R22: a pair reads its two registers at that moment (a write of F masks its low nibble, R25). -/
def Obligations.PairsAreViewsOfTheirRegisters : Prop :=
  ∀ s : State,
    (s.pair .af = (s.a.setWidth 16 <<< 8) ||| s.f.setWidth 16 ∧ s.pair .bc = (s.b.setWidth 16 <<< 8) ||| s.c.setWidth 16 ∧
      s.pair .de = (s.d.setWidth 16 <<< 8) ||| s.e.setWidth 16 ∧ s.pair .hl = (s.h.setWidth 16 <<< 8) ||| s.l.setWidth 16) ∧
    ∀ v : Byte, (s.setReg8 .b v).pair .bc = (v.setWidth 16 <<< 8) ||| s.c.setWidth 16 ∧
      (s.setReg8 .c v).pair .bc = (s.b.setWidth 16 <<< 8) ||| v.setWidth 16 ∧
      (s.setReg8 .d v).pair .de = (v.setWidth 16 <<< 8) ||| s.e.setWidth 16 ∧
      (s.setReg8 .e v).pair .de = (s.d.setWidth 16 <<< 8) ||| v.setWidth 16 ∧
      (s.setReg8 .h v).pair .hl = (v.setWidth 16 <<< 8) ||| s.l.setWidth 16 ∧
      (s.setReg8 .l v).pair .hl = (s.h.setWidth 16 <<< 8) ||| v.setWidth 16 ∧
      (s.setReg8 .a v).pair .af = (v.setWidth 16 <<< 8) ||| s.f.setWidth 16 ∧
      (s.setF v).pair .af = (s.a.setWidth 16 <<< 8) ||| (v &&& 0xF0#8).setWidth 16

/-- 10_state.md R23: what writing a pair stores, and what reading it back gives. -/
def Obligations.PairWriteThenPairRead : Prop :=
  ∀ (s : State) (v : Word),
    (s.setPair .bc v = { s with b := (v >>> 8).setWidth 8, c := v.setWidth 8 } ∧ (s.setPair .bc v).pair .bc = v) ∧
    (s.setPair .de v = { s with d := (v >>> 8).setWidth 8, e := v.setWidth 8 } ∧ (s.setPair .de v).pair .de = v) ∧
    (s.setPair .hl v = { s with h := (v >>> 8).setWidth 8, l := v.setWidth 8 } ∧ (s.setPair .hl v).pair .hl = v) ∧
    (s.setPair .af v = { s with a := (v >>> 8).setWidth 8, f := v.setWidth 8 &&& 0xF0#8 } ∧
      (s.setPair .af v).pair .af = v &&& 0xFFF0#16)

/-- 10_state.md R27: setting one flag sets that flag, disturbs no other, and leaves the rest of the machine alone. -/
def Obligations.SetFlagDisturbsNoOtherFlag : Prop :=
  ∀ (s : State) (fl : Flag) (b : Bool),
    (∀ x : Flag, (s.setFlag fl b).getFlag x = if x = fl then b else s.getFlag x) ∧
    (s.setFlag fl b).f &&& 0x0F#8 = 0#8 ∧ s.setFlag fl b = { s with f := (s.setFlag fl b).f } ∧
    (s.getFlag .z = s.f.getLsbD 7 ∧ s.getFlag .n = s.f.getLsbD 6 ∧ s.getFlag .hf = s.f.getLsbD 5 ∧
      s.getFlag .cy = s.f.getLsbD 4)

/-- 20_memory.md R52: a write changes exactly that one byte, and every later read sees it. -/
def Obligations.ByteWriteChangesExactlyThatByte : Prop :=
  ∀ (s : State) (addr : Word) (v : Byte),
    (∀ x : Word, (s.writeByte addr v).readByte x = if x = addr then v else s.readByte x) ∧
    s.writeByte addr v = { s with mem := (s.writeByte addr v).mem }

/-- 20_memory.md R68: the high-page address. -/
def Obligations.HighPageAddressNeverWraps : Prop :=
  ∀ s : State, s.effAddr .highC = 0xFF00#16 ||| s.c.setWidth 16 ∧ (s.effAddr .highC).toNat = 0xFF00 + s.c.toNat ∧
    0xFF00 ≤ (s.effAddr .highC).toNat ∧ (s.effAddr .highC).toNat ≤ 0xFFFF

/-! ### ALU primitives -/

/-- 41_alu.md R130. -/
def Obligations.AddPrimitiveMeetsItsTableRow : Prop :=
  ∀ a b : Byte,
    (add8 a b).result.toNat = (a.toNat + b.toNat) % 256 ∧
    (add8 a b).flags.getLsbD 7 = decide ((a.toNat + b.toNat) % 256 = 0) ∧ (add8 a b).flags.getLsbD 6 = false ∧
    (add8 a b).flags.getLsbD 5 = decide (a.toNat % 16 + b.toNat % 16 > 15) ∧
    (add8 a b).flags.getLsbD 4 = decide (a.toNat + b.toNat > 255)

/-- 41_alu.md R131: `adc8`, and that the incoming carry is F[4] before the instruction. -/
def Obligations.AddWithCarryPrimitiveMeetsItsTableRow : Prop :=
  (∀ (a b : Byte) (cin : Bool),
    (adc8 a b cin).result.toNat = (a.toNat + b.toNat + cin.toNat) % 256 ∧
    (adc8 a b cin).flags.getLsbD 7 = decide ((a.toNat + b.toNat + cin.toNat) % 256 = 0) ∧
    (adc8 a b cin).flags.getLsbD 6 = false ∧
    (adc8 a b cin).flags.getLsbD 5 = decide (a.toNat % 16 + b.toNat % 16 + cin.toNat > 15) ∧
    (adc8 a b cin).flags.getLsbD 4 = decide (a.toNat + b.toNat + cin.toNat > 255)) ∧
  ∀ (s : State) (src : Src8), ∃ t, exec (Instr.alu .adc src) s = .next t ∧
    t.a = (adc8 s.a (s.src8 src) (s.f.getLsbD 4)).result ∧ t.f = (adc8 s.a (s.src8 src) (s.f.getLsbD 4)).flags

/-- 41_alu.md R132, R133: the right-hand side `b + cin` of a borrow is not wrapped. -/
def Obligations.SubtractPrimitivesMeetTheirTableRows : Prop :=
  ∀ a b : Byte,
    ((sub8 a b).result.toNat = (a.toNat + 256 - b.toNat) % 256 ∧
      (sub8 a b).flags.getLsbD 7 = decide (a.toNat = b.toNat) ∧ (sub8 a b).flags.getLsbD 6 = true ∧
      (sub8 a b).flags.getLsbD 5 = decide (a.toNat % 16 < b.toNat % 16) ∧
      (sub8 a b).flags.getLsbD 4 = decide (a.toNat < b.toNat)) ∧
    ∀ cin : Bool,
      (sbc8 a b cin).result.toNat = (a.toNat + 512 - b.toNat - cin.toNat) % 256 ∧
      (sbc8 a b cin).flags.getLsbD 7 = decide ((a.toNat + 512 - b.toNat - cin.toNat) % 256 = 0) ∧
      (sbc8 a b cin).flags.getLsbD 6 = true ∧
      (sbc8 a b cin).flags.getLsbD 5 = decide (a.toNat % 16 < b.toNat % 16 + cin.toNat) ∧
      (sbc8 a b cin).flags.getLsbD 4 = decide (a.toNat < b.toNat + cin.toNat)

/-- 41_alu.md R134, R135, R136. -/
def Obligations.LogicPrimitivesMeetTheirTableRows : Prop :=
  ∀ a b : Byte,
    ((and8 a b).result = a &&& b ∧ (and8 a b).flags = if a &&& b = 0#8 then 0xA0#8 else 0x20#8) ∧
    ((or8 a b).result = a ||| b ∧ (or8 a b).flags = if a ||| b = 0#8 then 0x80#8 else 0x00#8) ∧
    ((xor8 a b).result = a ^^^ b ∧ (xor8 a b).flags = if a = b then 0x80#8 else 0x00#8)

/-- 41_alu.md R137: `cp8` has the flags of `sub8` and writes no result anywhere. -/
def Obligations.ComparePrimitiveMeetsItsTableRow : Prop :=
  (∀ a b : Byte, cp8 a b = (sub8 a b).flags ∧ (cp8 a b).getLsbD 7 = decide (a = b) ∧ (cp8 a b).getLsbD 6 = true ∧
    (cp8 a b).getLsbD 5 = decide (a.toNat % 16 < b.toNat % 16) ∧ (cp8 a b).getLsbD 4 = decide (a.toNat < b.toNat)) ∧
  ∀ (s : State) (src : Src8), exec (Instr.alu .cp src) s = .next { s with f := cp8 s.a (s.src8 src) }

/-- 41_alu.md R138, R139: the carry bit of the old flag byte is kept. -/
def Obligations.IncrementAndDecrementPrimitivesKeepCarry : Prop :=
  ∀ x f : Byte,
    ((inc8 x f).result.toNat = (x.toNat + 1) % 256 ∧ (inc8 x f).flags.getLsbD 7 = decide (x.toNat = 255) ∧
      (inc8 x f).flags.getLsbD 6 = false ∧ (inc8 x f).flags.getLsbD 5 = decide (x.toNat % 16 = 15) ∧
      (inc8 x f).flags.getLsbD 4 = f.getLsbD 4) ∧
    ((dec8 x f).result.toNat = (x.toNat + 255) % 256 ∧ (dec8 x f).flags.getLsbD 7 = decide (x.toNat = 1) ∧
      (dec8 x f).flags.getLsbD 6 = true ∧ (dec8 x f).flags.getLsbD 5 = decide (x.toNat % 16 = 0) ∧
      (dec8 x f).flags.getLsbD 4 = f.getLsbD 4)

/-- 41_alu.md R141, the laws it lists (the source's first, the others marked derived there). -/
def Obligations.ArithmeticLawsOfThePrimitives : Prop :=
  (∀ x f g : Byte, (dec8 (inc8 x f).result g).result = x ∧ (inc8 (dec8 x f).result g).result = x) ∧
  (∀ a b : Byte, cp8 a b = (sub8 a b).flags ∧ adc8 a b false = add8 a b ∧ sbc8 a b false = sub8 a b) ∧
  (∀ a : Byte, xor8 a a = ⟨0x00#8, 0x80#8⟩ ∧ sub8 a a = ⟨0x00#8, 0xC0#8⟩ ∧ (and8 a a).result = a ∧ (or8 a a).result = a ∧
    (add8 a a).result.toNat = 2 * a.toNat % 256 ∧ (add8 a a).flags.getLsbD 4 = a.getLsbD 7 ∧
    (add8 a a).flags.getLsbD 5 = a.getLsbD 3)

/-! ### ALU instructions: result, flags and frame, for every second operand -/

/-- 41_alu.md R142 to R144 over R130 (destination A: D2, log 3): ADD completes from every state. -/
def Obligations.AddInstructionsWriteSumAndFlags : Prop :=
  ∀ (s : State) (src : Src8), ∃ t, exec (Instr.alu .add src) s = .next t ∧
    t.a.toNat = (s.a.toNat + (s.src8 src).toNat) % 256 ∧
    t.getFlag .z = decide ((s.a.toNat + (s.src8 src).toNat) % 256 = 0) ∧ t.getFlag .n = false ∧
    t.getFlag .hf = decide (s.a.toNat % 16 + (s.src8 src).toNat % 16 > 15) ∧
    t.getFlag .cy = decide (s.a.toNat + (s.src8 src).toNat > 255) ∧
    t.f &&& 0x0F#8 = 0#8 ∧ t = { s with a := t.a, f := t.f }

/-- 41_alu.md R145 to R147 over R131 (destination A: D2, log 3): ADC completes from every state. -/
def Obligations.AddWithCarryInstructionsWriteSumAndFlags : Prop :=
  ∀ (s : State) (src : Src8), ∃ t, exec (Instr.alu .adc src) s = .next t ∧
    t.a.toNat = (s.a.toNat + (s.src8 src).toNat + (s.getFlag .cy).toNat) % 256 ∧
    t.getFlag .z = decide ((s.a.toNat + (s.src8 src).toNat + (s.getFlag .cy).toNat) % 256 = 0) ∧ t.getFlag .n = false ∧
    t.getFlag .hf = decide (s.a.toNat % 16 + (s.src8 src).toNat % 16 + (s.getFlag .cy).toNat > 15) ∧
    t.getFlag .cy = decide (s.a.toNat + (s.src8 src).toNat + (s.getFlag .cy).toNat > 255) ∧
    t.f &&& 0x0F#8 = 0#8 ∧ t = { s with a := t.a, f := t.f }

/-- 41_alu.md R148 to R150 over R132 (destination A: D2, log 3): SUB completes from every state. -/
def Obligations.SubtractInstructionsWriteDifferenceAndFlags : Prop :=
  ∀ (s : State) (src : Src8), ∃ t, exec (Instr.alu .sub src) s = .next t ∧
    t.a.toNat = (s.a.toNat + 256 - (s.src8 src).toNat) % 256 ∧
    t.getFlag .z = decide (s.a = s.src8 src) ∧ t.getFlag .n = true ∧
    t.getFlag .hf = decide (s.a.toNat % 16 < (s.src8 src).toNat % 16) ∧
    t.getFlag .cy = decide (s.a.toNat < (s.src8 src).toNat) ∧
    t.f &&& 0x0F#8 = 0#8 ∧ t = { s with a := t.a, f := t.f }

/-- 41_alu.md R151 to R153 over R133 (destination A: D2, log 3): SBC completes from every state. -/
def Obligations.SubtractWithCarryInstructionsWriteDifferenceAndFlags : Prop :=
  ∀ (s : State) (src : Src8), ∃ t, exec (Instr.alu .sbc src) s = .next t ∧
    t.a.toNat = (s.a.toNat + 512 - (s.src8 src).toNat - (s.getFlag .cy).toNat) % 256 ∧
    t.getFlag .z = decide ((s.a.toNat + 512 - (s.src8 src).toNat - (s.getFlag .cy).toNat) % 256 = 0) ∧
    t.getFlag .n = true ∧
    t.getFlag .hf = decide (s.a.toNat % 16 < (s.src8 src).toNat % 16 + (s.getFlag .cy).toNat) ∧
    t.getFlag .cy = decide (s.a.toNat < (s.src8 src).toNat + (s.getFlag .cy).toNat) ∧
    t.f &&& 0x0F#8 = 0#8 ∧ t = { s with a := t.a, f := t.f }

/-- 41_alu.md R154 to R162 over R134 to R136 (destination A: D2, log 3): AND, XOR, OR complete from every state. -/
def Obligations.LogicInstructionsWriteResultAndFlags : Prop :=
  ∀ (s : State) (src : Src8),
    exec (Instr.alu .and src) s =
      .next { s with a := s.a &&& s.src8 src, f := if s.a &&& s.src8 src = 0#8 then 0xA0#8 else 0x20#8 } ∧
    exec (Instr.alu .xor src) s =
      .next { s with a := s.a ^^^ s.src8 src, f := if s.a ^^^ s.src8 src = 0#8 then 0x80#8 else 0x00#8 } ∧
    exec (Instr.alu .or src) s =
      .next { s with a := s.a ||| s.src8 src, f := if s.a ||| s.src8 src = 0#8 then 0x80#8 else 0x00#8 }

/-- 41_alu.md R163 to R165 over R137 (first operand A: D2, log 3): CP completes from every state and writes F only. -/
def Obligations.CompareInstructionsWriteFlagsOnly : Prop :=
  ∀ (s : State) (src : Src8), ∃ t, exec (Instr.alu .cp src) s = .next t ∧
    t.getFlag .z = decide (s.a = s.src8 src) ∧ t.getFlag .n = true ∧
    t.getFlag .hf = decide (s.a.toNat % 16 < (s.src8 src).toNat % 16) ∧
    t.getFlag .cy = decide (s.a.toNat < (s.src8 src).toNat) ∧
    t.f &&& 0x0F#8 = 0#8 ∧ t = { s with f := t.f }

/-- 41_alu.md R172 (marked derived there): A as both operands. -/
def Obligations.AccumulatorAsBothOperands : Prop :=
  ∀ s : State,
    (∃ t, exec .addAA s = .next t ∧ t.a.toNat = 2 * s.a.toNat % 256 ∧
      t.getFlag .z = (decide (s.a = 0x00#8) || decide (s.a = 0x80#8)) ∧
      t.getFlag .n = false ∧ t.getFlag .hf = s.a.getLsbD 3 ∧ t.getFlag .cy = s.a.getLsbD 7) ∧
    (∃ t, exec .adcAA s = .next t ∧ t.a.toNat = (2 * s.a.toNat + (s.getFlag .cy).toNat) % 256 ∧
      t.getFlag .hf = decide (2 * (s.a.toNat % 16) + (s.getFlag .cy).toNat > 15) ∧
      t.getFlag .cy = decide (2 * s.a.toNat + (s.getFlag .cy).toNat > 255)) ∧
    exec .subAA s = .next { s with a := 0x00#8, f := 0xC0#8 } ∧
    exec .sbcAA s = .next { s with a := if s.getFlag .cy then 0xFF#8 else 0x00#8,
                                   f := if s.getFlag .cy then 0x70#8 else 0xC0#8 } ∧
    exec .andAA s = .next { s with f := if s.a = 0#8 then 0xA0#8 else 0x20#8 } ∧
    exec .xorAA s = .next { s with a := 0x00#8, f := 0x80#8 } ∧
    exec .orAA s = .next { s with f := if s.a = 0#8 then 0x80#8 else 0x00#8 } ∧
    exec .cpAA s = .next { s with f := 0xC0#8 }

/-! ### INC and DEC -/

/-- 41_alu.md R166, R168 (opcode bytes: D1): INC r and DEC r complete from every state, keep the carry, and change
nothing but the register and Z, N, H. -/
def Obligations.IncrementAndDecrementOfARegister : Prop :=
  ∀ (s : State) (r : Reg8),
    (∃ t, exec (Instr.inc8 (.reg r)) s = .next t ∧
      (∀ x, t.reg8 x = if x = r then s.reg8 r + 1#8 else s.reg8 x) ∧
      t.getFlag .z = decide (s.reg8 r = 0xFF#8) ∧ t.getFlag .n = false ∧
      t.getFlag .hf = decide ((s.reg8 r).toNat % 16 = 15) ∧ t.getFlag .cy = s.getFlag .cy ∧ t.f &&& 0x0F#8 = 0#8 ∧
      t.sp = s.sp ∧ t.pc = s.pc ∧ t.mem = s.mem) ∧
    (∃ t, exec (Instr.dec8 (.reg r)) s = .next t ∧
      (∀ x, t.reg8 x = if x = r then s.reg8 r - 1#8 else s.reg8 x) ∧
      t.getFlag .z = decide (s.reg8 r = 0x01#8) ∧ t.getFlag .n = true ∧
      t.getFlag .hf = decide ((s.reg8 r).toNat % 16 = 0) ∧ t.getFlag .cy = s.getFlag .cy ∧ t.f &&& 0x0F#8 = 0#8 ∧
      t.sp = s.sp ∧ t.pc = s.pc ∧ t.mem = s.mem)

/-- 41_alu.md R167, R169 (that the form exists: D9, log 3): INC (HL) and DEC (HL) complete from every state and change
the byte at HL and Z, N, H, nothing else. -/
def Obligations.IncrementAndDecrementOfTheByteAtHL : Prop :=
  ∀ s : State,
    (∃ t, exec .incIndHL s = .next t ∧
      (∀ x, t.readByte x = if x = s.pair .hl then s.readByte (s.pair .hl) + 1#8 else s.readByte x) ∧
      t.getFlag .z = decide (s.readByte (s.pair .hl) = 0xFF#8) ∧ t.getFlag .n = false ∧
      t.getFlag .hf = decide ((s.readByte (s.pair .hl)).toNat % 16 = 15) ∧ t.getFlag .cy = s.getFlag .cy ∧
      t.f &&& 0x0F#8 = 0#8 ∧ t = { s with f := t.f, mem := t.mem }) ∧
    (∃ t, exec .decIndHL s = .next t ∧
      (∀ x, t.readByte x = if x = s.pair .hl then s.readByte (s.pair .hl) - 1#8 else s.readByte x) ∧
      t.getFlag .z = decide (s.readByte (s.pair .hl) = 0x01#8) ∧ t.getFlag .n = true ∧
      t.getFlag .hf = decide ((s.readByte (s.pair .hl)).toNat % 16 = 0) ∧ t.getFlag .cy = s.getFlag .cy ∧
      t.f &&& 0x0F#8 = 0#8 ∧ t = { s with f := t.f, mem := t.mem })

/-- 41_alu.md R170, R171 (opcode bytes: D1): INC rr and DEC rr complete from every state, wrap modulo 65536, and touch no
flag. -/
def Obligations.IncrementAndDecrementOfAPairTouchNoFlag : Prop :=
  ∀ (s : State) (p : RegPair),
    (∃ t, exec (Instr.inc16 p) s = .next t ∧ (t.regPair p).toNat = ((s.regPair p).toNat + 1) % 65536 ∧
      (∀ x, x ≠ p → t.regPair x = s.regPair x) ∧ t.f = s.f ∧ t.a = s.a ∧ t.pc = s.pc ∧ t.mem = s.mem) ∧
    (∃ t, exec (Instr.dec16 p) s = .next t ∧ (t.regPair p).toNat = ((s.regPair p).toNat + 65535) % 65536 ∧
      (∀ x, x ≠ p → t.regPair x = s.regPair x) ∧ t.f = s.f ∧ t.a = s.a ∧ t.pc = s.pc ∧ t.mem = s.mem)

/-! ### Loads and stores -/

/-- 42_loads.md R180, R181, R183 (opcode bytes: D1): LD r,r', LD r,(HL) and LD r,d8 complete from every state and change
one register; LD H,(HL) and LD L,(HL) read at the old HL. -/
def Obligations.RegisterLoadsChangeOneRegister : Prop :=
  ∀ (s : State) (dst : Reg8),
    (∀ src : Reg8, ∃ t, exec (Instr.ldRegReg dst src) s = .next t ∧
      (∀ x, t.reg8 x = if x = dst then s.reg8 src else s.reg8 x) ∧ t.f = s.f ∧ t.sp = s.sp ∧ t.pc = s.pc ∧ t.mem = s.mem) ∧
    (∃ t, exec (Instr.ldRegInd dst) s = .next t ∧
      (∀ x, t.reg8 x = if x = dst then s.readByte (s.pair .hl) else s.reg8 x) ∧ t.f = s.f ∧ t.sp = s.sp ∧ t.pc = s.pc ∧
      t.mem = s.mem) ∧
    (∀ n : Byte, ∃ t, exec (Instr.ldRegImm dst n) s = .next t ∧
      (∀ x, t.reg8 x = if x = dst then n else s.reg8 x) ∧ t.f = s.f ∧ t.sp = s.sp ∧ t.pc = s.pc ∧ t.mem = s.mem)

/-- 42_loads.md R182, R184 (opcode bytes: D1): LD (HL),r and LD (HL),d8 complete from every state and change the byte at
HL, nothing else. -/
def Obligations.StoresThroughHLChangeOneByte : Prop :=
  ∀ s : State,
    (∀ src : Reg8, ∃ t, exec (Instr.ldIndReg src) s = .next t ∧
      (∀ x, t.readByte x = if x = s.pair .hl then s.reg8 src else s.readByte x) ∧ t = { s with mem := t.mem }) ∧
    (∀ n : Byte, ∃ t, exec (.ldIndHLd8 n) s = .next t ∧
      (∀ x, t.readByte x = if x = s.pair .hl then n else s.readByte x) ∧ t = { s with mem := t.mem })

/-- 42_loads.md R185, R186 (opcode bytes: D1): LD rr,d16 and LD SP,d16 complete from every state; the byte after the
opcode is the low one. -/
def Obligations.PairImmediateLoadsChangeOnePair : Prop :=
  ∀ (s : State) (n : Word),
    exec (.ldBCd16 n) s = .next { s with b := (n >>> 8).setWidth 8, c := n.setWidth 8 } ∧
    exec (.ldDEd16 n) s = .next { s with d := (n >>> 8).setWidth 8, e := n.setWidth 8 } ∧
    exec (.ldHLd16 n) s = .next { s with h := (n >>> 8).setWidth 8, l := n.setWidth 8 } ∧
    exec (.ldSPd16 n) s = .next { s with sp := n } ∧
    (∀ rest, decode (0x01#8 :: n.setWidth 8 :: (n >>> 8).setWidth 8 :: rest) = .ok (.ldBCd16 n, rest) ∧
      decode (0x11#8 :: n.setWidth 8 :: (n >>> 8).setWidth 8 :: rest) = .ok (.ldDEd16 n, rest) ∧
      decode (0x21#8 :: n.setWidth 8 :: (n >>> 8).setWidth 8 :: rest) = .ok (.ldHLd16 n, rest) ∧
      decode (0x31#8 :: n.setWidth 8 :: (n >>> 8).setWidth 8 :: rest) = .ok (.ldSPd16 n, rest))

/-- 42_loads.md R187, R188, R195, R197 (A as the destination: D2, log 3): the loads of A that change A only complete from
every state. -/
def Obligations.AccumulatorLoadsChangeAOnly : Prop :=
  ∀ s : State,
    exec .ldAIndBC s = .next { s with a := s.readByte ((s.b.setWidth 16 <<< 8) ||| s.c.setWidth 16) } ∧
    exec .ldAIndDE s = .next { s with a := s.readByte ((s.d.setWidth 16 <<< 8) ||| s.e.setWidth 16) } ∧
    (∀ addr : Word, exec (.ldAAbs addr) s = .next { s with a := s.readByte addr }) ∧
    exec .ldAHighC s = .next { s with a := s.readByte (0xFF00#16 + s.c.setWidth 16) }

/-- 42_loads.md R189, R190, R196, R198 (A as the source: D2, log 3): the stores of A that change no register complete
from every state and change one byte. -/
def Obligations.AccumulatorStoresChangeOneByte : Prop :=
  ∀ s : State,
    (∃ t, exec .ldIndBCA s = .next t ∧ (∀ x, t.readByte x = if x = s.pair .bc then s.a else s.readByte x) ∧
      t = { s with mem := t.mem }) ∧
    (∃ t, exec .ldIndDEA s = .next t ∧ (∀ x, t.readByte x = if x = s.pair .de then s.a else s.readByte x) ∧
      t = { s with mem := t.mem }) ∧
    (∀ addr : Word, ∃ t, exec (.ldAbsA addr) s = .next t ∧ (∀ x, t.readByte x = if x = addr then s.a else s.readByte x) ∧
      t = { s with mem := t.mem }) ∧
    (∃ t, exec .ldHighCA s = .next t ∧
      (∀ x, t.readByte x = if x = 0xFF00#16 + s.c.setWidth 16 then s.a else s.readByte x) ∧ t = { s with mem := t.mem })

/-- 42_loads.md R191, in the source's own byte and form: LD A,(HL+) reads at HL before the increment and HL wraps. -/
def Obligations.LoadThroughHLThenIncrement : Prop :=
  (∀ rest, decode (0x2A#8 :: rest) = .ok (.ldAIndHLInc, rest)) ∧
  ∀ s : State, ∃ t, exec .ldAIndHLInc s = .next t ∧ t.a = s.readByte (s.pair .hl) ∧
    (t.pair .hl).toNat = ((s.pair .hl).toNat + 1) % 65536 ∧ t = { s with a := t.a, h := t.h, l := t.l }

/-- 42_loads.md R192, R193, R194 (order of the access and store forms: D8, log 3): the other three (HL+) and (HL-) forms
complete from every state and access HL before it moves. -/
def Obligations.RemainingAccessesThroughHLThenMoveHL : Prop :=
  ∀ s : State,
    (∃ t, exec .ldAIndHLDec s = .next t ∧ t.a = s.readByte (s.pair .hl) ∧
      (t.pair .hl).toNat = ((s.pair .hl).toNat + 65535) % 65536 ∧ t = { s with a := t.a, h := t.h, l := t.l }) ∧
    (∃ t, exec .ldIndHLIncA s = .next t ∧ (∀ x, t.readByte x = if x = s.pair .hl then s.a else s.readByte x) ∧
      (t.pair .hl).toNat = ((s.pair .hl).toNat + 1) % 65536 ∧ t = { s with h := t.h, l := t.l, mem := t.mem }) ∧
    (∃ t, exec .ldIndHLDecA s = .next t ∧ (∀ x, t.readByte x = if x = s.pair .hl then s.a else s.readByte x) ∧
      (t.pair .hl).toNat = ((s.pair .hl).toNat + 65535) % 65536 ∧ t = { s with h := t.h, l := t.l, mem := t.mem })

/-! ### Stack -/

/-- 43_stack.md R230: the push primitive. -/
def Obligations.PushPrimitiveStoresHighThenLow : Prop :=
  ∀ (s : State) (hi lo : Byte),
    (s.push hi lo).sp = s.sp - 2#16 ∧
    (∀ x, (s.push hi lo).readByte x = if x = s.sp - 1#16 then hi else if x = s.sp - 2#16 then lo else s.readByte x) ∧
    s.push hi lo = { s with sp := (s.push hi lo).sp, mem := (s.push hi lo).mem }

/-- 43_stack.md R232, R233 (opcode bytes: D1): PUSH completes from every state; a clean F is stored with a zero low
nibble. -/
def Obligations.PushInstructionsStoreThePair : Prop :=
  ∀ (s : State) (q : Pair),
    (∃ t, exec (Instr.push q) s = .next t ∧ t.sp = s.sp - 2#16 ∧
      (∀ x, t.readByte x = if x = s.sp - 1#16 then (s.pair q >>> 8).setWidth 8
        else if x = s.sp - 2#16 then (s.pair q).setWidth 8 else s.readByte x) ∧
      t = { s with sp := t.sp, mem := t.mem }) ∧
    (s.f &&& 0x0F#8 = 0#8 → ∃ t, exec .pushAF s = .next t ∧ t.readByte t.sp &&& 0x0F#8 = 0#8)

/-- 43_stack.md R234, R235 (byte order: R231 as corrected by conflict C1, log 12; opcode bytes: D1): POP completes from
every state; POP AF discards the low nibble of the popped byte. -/
def Obligations.PopInstructionsLoadThePair : Prop :=
  ∀ s : State,
    exec .popBC s = .next { s with b := s.readByte (s.sp + 1#16), c := s.readByte s.sp, sp := s.sp + 2#16 } ∧
    exec .popDE s = .next { s with d := s.readByte (s.sp + 1#16), e := s.readByte s.sp, sp := s.sp + 2#16 } ∧
    exec .popHL s = .next { s with h := s.readByte (s.sp + 1#16), l := s.readByte s.sp, sp := s.sp + 2#16 } ∧
    exec .popAF s = .next { s with a := s.readByte (s.sp + 1#16), f := s.readByte s.sp &&& 0xF0#8, sp := s.sp + 2#16 }

/-- 43_stack.md R236 (its reach to every SP is marked derived there): a push and then a pop give the bytes back. -/
def Obligations.PopAfterPushRestoresBytesAndSP : Prop :=
  ∀ (s : State) (hi lo : Byte),
    (s.push hi lo).pop.1 = (hi.setWidth 16 <<< 8) ||| lo.setWidth 16 ∧ (s.push hi lo).pop.2.sp = s.sp ∧
    (s.push hi lo).pop.2.readByte (s.sp - 1#16) = hi ∧ (s.push hi lo).pop.2.readByte (s.sp - 2#16) = lo

/-- 43_stack.md R238 (marked derived there): PUSH of one pair and POP of another copies the value, less the low nibble
where the target is AF. -/
def Obligations.PushThenPopCopiesAPair : Prop :=
  ∀ (s : State) (q q' : Pair), ∃ t u, exec (Instr.push q) s = .next t ∧ exec (Instr.pop q') t = .next u ∧
    u.pair q' = (if q' = .af then s.pair q &&& 0xFFF0#16 else s.pair q) ∧ u.sp = s.sp ∧
    u.pc = s.pc ∧ ∀ x, x ≠ q' → u.pair x = s.pair x

/-! ### NOP and the whole machine -/

/-- 40_step_cycle.md R116 (that it changes nothing else: D19, log 14). -/
def Obligations.NopChangesNothing : Prop := ∀ s : State, exec .nop s = .next s

/-- 10_state.md R28; 42_loads.md R201 (flags of loads, PUSH, POP, NOP: D23, log 14): only the ALU instructions, 8-bit INC
and DEC, and POP AF change F. -/
def Obligations.OnlyAluAndPopAFChangeF : Prop :=
  ∀ (i : Instr) (s t : State), exec i s = .next t → t.f ≠ s.f →
    (∃ o src, i = Instr.alu o src) ∨ (∃ dst, i = Instr.inc8 dst) ∨ (∃ dst, i = Instr.dec8 dst) ∨ i = .popAF

/-- 10_state.md R24 (marked derived there): only PUSH, POP, INC SP, DEC SP and LD SP,d16 change SP. -/
def Obligations.OnlyStackInstructionsChangeSP : Prop :=
  ∀ (i : Instr) (s t : State), exec i s = .next t → t.sp ≠ s.sp →
    (∃ q, i = Instr.push q) ∨ (∃ q, i = Instr.pop q) ∨ i = .incSP ∨ i = .decSP ∨ ∃ n, i = .ldSPd16 n

/-- 40_step_cycle.md R118 (on the map of D1, D3): no instruction writes PC other than by the fetch of its bytes. -/
def Obligations.NoInstructionTransfersControl : Prop :=
  ∀ (i : Instr) (s t : State), exec i s = .next t → t.pc = s.pc

/-- 20_memory.md R59; 40_step_cycle.md R119 (order: D18, log 17): after a step every byte of memory is what replaying the
writes of the step's bus accesses in order makes it, so nothing but those addresses changes. -/
def Obligations.MemoryAfterAStepIsTheReplayOfItsBusWrites : Prop :=
  ∀ s t : State, step s = .next t →
    ∀ x : Word, t.readByte x = (s.afterAccesses (stepAccesses s)).readByte x ∧
      (t.readByte x ≠ s.readByte x → ∃ acc ∈ stepAccesses s, acc.writesTo x = true)

/-- 20_memory.md R59; 40_step_cycle.md R119 (order: D18, log 17): which data accesses each kind of instruction
makes, in order. -/
def Obligations.DataAccessesOfEachKind : Prop :=
  ∀ s : State,
    (∀ q, dataAccesses (Instr.push q) s =
      [.write (s.sp - 1#16) ((s.pair q >>> 8).setWidth 8), .write (s.sp - 2#16) ((s.pair q).setWidth 8)]) ∧
    (∀ q, dataAccesses (Instr.pop q) s = [.read s.sp, .read (s.sp + 1#16)]) ∧
    dataAccesses .incIndHL s = [.read (s.pair .hl), .write (s.pair .hl) (s.readByte (s.pair .hl) + 1#8)] ∧
    dataAccesses .decIndHL s = [.read (s.pair .hl), .write (s.pair .hl) (s.readByte (s.pair .hl) - 1#8)] ∧
    (∀ o, dataAccesses (Instr.alu o .indHL) s = [.read (s.pair .hl)]) ∧
    (∀ o r, dataAccesses (Instr.alu o (.reg r)) s = []) ∧ (∀ o n, dataAccesses (Instr.alu o (.imm n)) s = []) ∧
    (∀ m, dataAccesses (Instr.loadAcc m) s = [.read (s.effAddr m)]) ∧
    (∀ m, dataAccesses (Instr.storeAcc m) s = [.write (s.effAddr m) s.a]) ∧
    (∀ dst, dataAccesses (Instr.ldRegInd dst) s = [.read (s.pair .hl)]) ∧
    (∀ src, dataAccesses (Instr.ldIndReg src) s = [.write (s.pair .hl) (s.reg8 src)]) ∧
    (∀ n, dataAccesses (Instr.ldIndImm n) s = [.write (s.pair .hl) n]) ∧
    dataAccesses .nop s = [] ∧ (∀ op, dataAccesses (.invalid op) s = []) ∧
    (∀ dst src, dataAccesses (Instr.ldRegReg dst src) s = []) ∧ (∀ dst n, dataAccesses (Instr.ldRegImm dst n) s = []) ∧
    (∀ p n, dataAccesses (Instr.ldPairImm p n) s = []) ∧
    (∀ r, dataAccesses (Instr.inc8 (.reg r)) s = [] ∧ dataAccesses (Instr.dec8 (.reg r)) s = []) ∧
    (∀ p, dataAccesses (Instr.inc16 p) s = [] ∧ dataAccesses (Instr.dec16 p) s = [])

/-- 20_memory.md R66 (marked derived there in part): a store is seen by the very next fetch. Here LD (HL),d8 stores into
the byte after itself. -/
def Obligations.StoreIsSeenByTheNextFetch : Prop :=
  ∀ s : State, s.readByte s.pc = 0x36#8 → s.pair .hl = s.pc + 2#16 →
    ∃ t, step s = .next t ∧ t.pc = s.pc + 2#16 ∧ t.fetch8.1 = s.readByte (s.pc + 1#16)

/-! ### Boot and sessions -/

/-- 70_reset_and_hazards.md R282: the 31 values, and zero everywhere else, in a machine booted without an image, for
every RESET_REGS. -/
def Obligations.PostBootTableIsAllThatIsNotZero : Prop :=
  ∀ r : Config.ResetRegs,
    [(0xFF05#16, 0x00#8), (0xFF06#16, 0x00#8), (0xFF07#16, 0x00#8), (0xFF10#16, 0x80#8), (0xFF11#16, 0xBF#8),
      (0xFF12#16, 0xF3#8), (0xFF14#16, 0xBF#8), (0xFF16#16, 0x3F#8), (0xFF17#16, 0x00#8), (0xFF19#16, 0xBF#8),
      (0xFF1A#16, 0x7F#8), (0xFF1B#16, 0xFF#8), (0xFF1C#16, 0x9F#8), (0xFF1E#16, 0xBF#8), (0xFF20#16, 0xFF#8),
      (0xFF21#16, 0x00#8), (0xFF22#16, 0x00#8), (0xFF23#16, 0xBF#8), (0xFF24#16, 0x77#8), (0xFF25#16, 0xF3#8),
      (0xFF26#16, 0xF1#8), (0xFF40#16, 0x91#8), (0xFF42#16, 0x00#8), (0xFF43#16, 0x00#8), (0xFF45#16, 0x00#8),
      (0xFF47#16, 0xFC#8), (0xFF48#16, 0xFF#8), (0xFF49#16, 0xFF#8), (0xFF4A#16, 0x00#8), (0xFF4B#16, 0x00#8),
      (0xFFFF#16, 0x00#8)].all (fun p => (boot r .absent).state.readByte p.1 == p.2) = true ∧
    ∀ x : Word, (boot r .absent).state.readByte x ≠ 0#8 →
      x ∈ [0xFF10#16, 0xFF11#16, 0xFF12#16, 0xFF14#16, 0xFF16#16, 0xFF19#16, 0xFF1A#16, 0xFF1B#16, 0xFF1C#16, 0xFF1E#16,
        0xFF20#16, 0xFF23#16, 0xFF24#16, 0xFF25#16, 0xFF26#16, 0xFF40#16, 0xFF47#16, 0xFF48#16, 0xFF49#16]

/-- 10_state.md R36; 70_reset_and_hazards.md R280 (RESET_REGS: D4, log 1; order of the actions: D16, log 8; failed load:
D17, log 11): the whole state after boot, for every RESET_REGS and every image, readable, absent or unreadable. -/
def Obligations.BootMakesTheStatedState : Prop :=
  ∀ (r : Config.ResetRegs) (image : List Byte),
    let s := (boot r (.bytes image)).state
    (s.pc = 0x0100#16 ∧ s.sp = 0xFFFE#16 ∧ s.a = r.a ∧ s.b = r.b ∧ s.c = r.c ∧ s.d = r.d ∧ s.e = r.e ∧ s.h = r.h ∧
      s.l = r.l ∧ s.f = r.f &&& 0xF0#8) ∧
    (∀ x : Word, s.readByte x =
      if x.toNat < 0x8000 then (image[x.toNat]?).getD 0x00#8 else State.reset.readByte x) ∧
    (boot r (.bytes image)).loadError = none ∧
    boot r .absent = ⟨{ State.ofBoot r [] with mem := State.reset.mem }, none⟩ ∧
    boot r .unreadable = ⟨(boot r .absent).state, some .romLoadFailure⟩

/-- 20_memory.md R55: the bus reset zero-fills memory, touches no register, and is the first action of boot. The order
of the image and the table after it is 70_reset_and_hazards.md R280 (decision D16, log 8). -/
def Obligations.BusResetZeroFillsMemory : Prop :=
  (∀ (s : State) (x : Word), s.busReset.readByte x = 0x00#8) ∧
  (∀ s : State, s.busReset = { s with mem := s.busReset.mem }) ∧
  ∀ (s : State) (r : Config.ResetRegs) (source : ImageSource),
    (boot r source).state.mem = Memory.writePairs (Memory.loadSource s.busReset.mem source).1 Config.postBoot

/-- 20_memory.md R54 (the limit and the failed load: D17, log 11): an image overwrites the bytes from 0x0000 up, at most
0x8000 of them, and nothing else. -/
def Obligations.ImageLoadCopiesAtMostTheLimit : Prop :=
  (∀ (m : Memory) (image : List Byte) (x : Nat),
    Memory.read (m.loadImage image) x =
      if x < 0x8000 then (image[x]?).getD (Memory.read m x) else Memory.read m x) ∧
  ∀ m : Memory, m.loadSource .unreadable = (m, some .romLoadFailure)

/-- 70_reset_and_hazards.md R289, stop rule (a) (the runs: D10, D11, log 16): a session under the empty host policy that
stops after n steps ends in the state n steps lead to, and not at all where one of them faults. -/
def Obligations.SessionOfNStepsIsNSteps : Prop :=
  ∀ (n : Nat) (s t : State),
    runSession HostPolicy.empty (.stepCount n) n 0 s = .stopped n t ↔ Host.Core.run Sys2Proof.core n s = .next t
end

