-- ==== Sys2Proof/Laws/Memory.lean ====
section
/-! SUPPORT. Laws of memory: a read after a write, the canonical form, and that equal memories are equal lists. -/

namespace Sys2Proof.Machine

/-! ### Reading after a write -/

theorem Memory.read_filter_ne (m : Memory) (addr x : Nat) :
    Memory.read (m.filter (fun cell => cell.1 ≠ addr)) x =
      if x = addr then Memory.unlisted addr else Memory.read m x := by
  induction m with
  | nil => by_cases hx : x = addr <;> simp [Memory.read, hx]
  | cons cell rest ih =>
    by_cases hc : cell.1 = addr
    · have hdrop : (cell :: rest).filter (fun c => c.1 ≠ addr) = rest.filter (fun c => c.1 ≠ addr) := by simp [hc]
      rw [hdrop, ih]
      by_cases hx : x = addr
      · simp [hx]
      · simp [hx, Memory.read, hc, Ne.symm hx]
    · have hkeep : (cell :: rest).filter (fun c => c.1 ≠ addr) = cell :: rest.filter (fun c => c.1 ≠ addr) := by simp [hc]
      rw [hkeep]
      simp only [Memory.read, ih]
      by_cases hx : x = addr
      · simp [hx, hc]
      · simp [hx]

theorem Memory.read_insert (addr : Nat) (v : Byte) (m : Memory) (x : Nat) (hm : ∀ cell ∈ m, cell.1 ≠ addr) :
    Memory.read (Memory.insert addr v m) x = if x = addr then v else Memory.read m x := by
  induction m with
  | nil => simp only [Memory.insert, Memory.read, eq_comm]
  | cons cell rest ih =>
    have hc : cell.1 ≠ addr := hm cell (by simp)
    have ih' := ih (fun c hcr => hm c (by simp [hcr]))
    by_cases hlt : addr < cell.1
    · simp only [Memory.insert, if_pos hlt, Memory.read, eq_comm (a := addr)]
    · simp only [Memory.insert, if_neg hlt, Memory.read, ih']
      by_cases hx : x = addr
      · subst hx; simp [hc]
      · simp [hx]

/-- A read after a write: the byte written at its address, the old byte everywhere else. -/
theorem Memory.read_write (m : Memory) (addr : Nat) (v : Byte) (x : Nat) :
    Memory.read (Memory.write m addr v) x = if x = addr then v else Memory.read m x := by
  unfold Memory.write
  by_cases hv : v = Memory.unlisted addr
  · rw [if_pos hv, Memory.read_filter_ne, hv]
  · rw [if_neg hv, Memory.read_insert _ _ _ _ (fun cell hc => by simpa using (List.mem_filter.mp hc).2),
      Memory.read_filter_ne]
    by_cases hx : x = addr <;> simp [hx]

/-! ### The canonical form -/

@[simp] theorem Memory.wfFrom_cons (lo : Nat) (cell : Host.Cell) (rest : Memory) :
    Memory.wfFrom lo (cell :: rest) = true ↔
      lo ≤ cell.1 ∧ cell.1 < Config.memorySize ∧ cell.2 ≠ Memory.unlisted cell.1 ∧ Memory.wfFrom (cell.1 + 1) rest = true := by
  simp [Memory.wfFrom, and_assoc]

theorem Memory.wfFrom_weaken {lo lo' : Nat} {m : Memory} (hle : lo' ≤ lo) (h : Memory.wfFrom lo m = true) :
    Memory.wfFrom lo' m = true := by
  cases m with
  | nil => rfl
  | cons cell rest =>
    rw [Memory.wfFrom_cons] at h ⊢
    exact ⟨by omega, h.2⟩

theorem Memory.wfFrom_filter (p : Host.Cell → Bool) {lo : Nat} {m : Memory} (h : Memory.wfFrom lo m = true) :
    Memory.wfFrom lo (m.filter p) = true := by
  induction m generalizing lo with
  | nil => rfl
  | cons cell rest ih =>
    rw [Memory.wfFrom_cons] at h
    cases hp : p cell with
    | true => simpa [hp] using ⟨h.1, h.2.1, h.2.2.1, ih h.2.2.2⟩
    | false => simpa [hp] using Memory.wfFrom_weaken (by omega : lo ≤ cell.1 + 1) (ih h.2.2.2)

theorem Memory.wfFrom_insert {addr lo : Nat} {v : Byte} {m : Memory} (hlo : lo ≤ addr)
    (haddr : addr < Config.memorySize) (hv : v ≠ Memory.unlisted addr) (hm : ∀ cell ∈ m, cell.1 ≠ addr)
    (h : Memory.wfFrom lo m = true) : Memory.wfFrom lo (Memory.insert addr v m) = true := by
  induction m generalizing lo with
  | nil => simpa [Memory.insert, Memory.wfFrom] using ⟨⟨hlo, haddr⟩, hv⟩
  | cons cell rest ih =>
    have hc : cell.1 ≠ addr := hm cell (by simp)
    rw [Memory.wfFrom_cons] at h
    by_cases hlt : addr < cell.1
    · simp only [Memory.insert, if_pos hlt, Memory.wfFrom_cons]
      exact ⟨hlo, haddr, hv, by omega, h.2⟩
    · simp only [Memory.insert, if_neg hlt, Memory.wfFrom_cons]
      exact ⟨h.1, h.2.1, h.2.2.1, ih (by omega) (fun c hcr => hm c (by simp [hcr])) h.2.2.2⟩

/-- A write inside the address space keeps the canonical form. -/
theorem Memory.write_wf {m : Memory} {addr : Nat} (v : Byte) (haddr : addr < Config.memorySize) (h : m.wf = true) :
    (Memory.write m addr v).wf = true := by
  have hf := Memory.wfFrom_filter (fun cell => cell.1 ≠ addr) h
  unfold Memory.write Memory.wf
  by_cases hv : v = Memory.unlisted addr
  · simpa [hv] using hf
  · simpa [hv] using Memory.wfFrom_insert (Nat.zero_le _) haddr hv
      (fun cell hc => by simpa using (List.mem_filter.mp hc).2) hf

/-- Below its first address a canonical memory reads as an unlisted address does. -/
theorem Memory.read_below {lo x : Nat} {m : Memory} (h : Memory.wfFrom lo m = true) (hx : x < lo) :
    Memory.read m x = Memory.unlisted x := by
  induction m generalizing lo with
  | nil => rfl
  | cons cell rest ih =>
    rw [Memory.wfFrom_cons] at h
    rw [Memory.read, if_neg (by omega), ih h.2.2.2 (by omega)]

theorem Memory.ext_from {lo : Nat} {m m' : Memory} (h : Memory.wfFrom lo m = true) (h' : Memory.wfFrom lo m' = true)
    (hread : ∀ x, lo ≤ x → x < Config.memorySize → Memory.read m x = Memory.read m' x) : m = m' := by
  induction m generalizing lo m' with
  | nil =>
    cases m' with
    | nil => rfl
    | cons cell rest =>
      rw [Memory.wfFrom_cons] at h'
      have heq := hread cell.1 h'.1 h'.2.1
      simp only [Memory.read, if_true] at heq
      exact absurd heq.symm h'.2.2.1
  | cons cell rest ih =>
    rw [Memory.wfFrom_cons] at h
    cases m' with
    | nil =>
      have heq := hread cell.1 h.1 h.2.1
      simp only [Memory.read, if_true] at heq
      exact absurd heq h.2.2.1
    | cons cell' rest' =>
      rw [Memory.wfFrom_cons] at h'
      have haddr : cell.1 = cell'.1 := by
        rcases Nat.lt_trichotomy cell.1 cell'.1 with hlt | heq | hgt
        · have heq := hread cell.1 h.1 h.2.1
          rw [Memory.read, if_pos rfl, Memory.read, if_neg (by omega), Memory.read_below h'.2.2.2 (by omega)] at heq
          exact absurd heq h.2.2.1
        · exact heq
        · have heq := hread cell'.1 h'.1 h'.2.1
          rw [Memory.read, if_neg (by omega), Memory.read_below h.2.2.2 (by omega), Memory.read, if_pos rfl] at heq
          exact absurd heq.symm h'.2.2.1
      have hval : cell.2 = cell'.2 := by
        have heq := hread cell.1 h.1 h.2.1
        rwa [Memory.read, if_pos rfl, Memory.read, if_pos haddr.symm] at heq
      have hrest : rest = rest' := by
        refine ih h.2.2.2 (haddr ▸ h'.2.2.2) fun x hlo hsize => ?_
        have heq := hread x (by omega) hsize
        rwa [Memory.read, if_neg (by omega), Memory.read, if_neg (by omega)] at heq
      rw [Prod.ext haddr hval, hrest]

/-- Two canonical memories that read alike at every address are the same list. -/
theorem Memory.ext_of_read {m m' : Memory} (h : m.wf = true) (h' : m'.wf = true)
    (hread : ∀ addr : Word, Memory.read m addr.toNat = Memory.read m' addr.toNat) : m = m' := by
  refine Memory.ext_from h h' fun x _ hx => ?_
  have hx' : x < 65536 := hx
  simpa [Nat.mod_eq_of_lt hx'] using hread (BitVec.ofNat 16 x)

/-! ### Bulk writes -/

theorem Memory.writePairs_wf {m : Memory} (ps : List (Nat × Byte)) (hps : ∀ p ∈ ps, p.1 < Config.memorySize)
    (h : m.wf = true) : (Memory.writePairs m ps).wf = true := by
  induction ps generalizing m with
  | nil => exact h
  | cons p rest ih => exact ih (fun q hq => hps q (by simp [hq])) (Memory.write_wf _ (hps p (by simp)) h)

/-- Copying touches only the addresses copied to. -/
theorem Memory.read_copyFrom (m : Memory) (addr : Nat) (bs : List Byte) (x : Nat) :
    Memory.read (Memory.copyFrom m addr bs) x =
      if addr ≤ x then (bs[x - addr]?).getD (Memory.read m x) else Memory.read m x := by
  induction bs generalizing m addr with
  | nil => simp [Memory.copyFrom]
  | cons v rest ih =>
    rw [Memory.copyFrom, ih, Memory.read_write]
    rcases Nat.lt_trichotomy x addr with hlt | heq | hgt
    · simp [show ¬ addr + 1 ≤ x by omega, show ¬ addr ≤ x by omega, show x ≠ addr by omega]
    · subst heq; simp
    · have hsub : x - addr = (x - (addr + 1)) + 1 := by omega
      simp [show addr + 1 ≤ x by omega, show addr ≤ x by omega, show x ≠ addr by omega, hsub]

theorem Memory.copyFrom_wf {m : Memory} (addr : Nat) (bs : List Byte) (hfit : addr + bs.length ≤ Config.memorySize)
    (h : m.wf = true) : (Memory.copyFrom m addr bs).wf = true := by
  induction bs generalizing m addr with
  | nil => exact h
  | cons v rest ih =>
    simp only [List.length_cons] at hfit
    exact ih (addr + 1) (by omega) (Memory.write_wf v (by omega) h)

/-! ### The same for a state -/

/-- A byte read after a byte written. -/
theorem State.readByte_writeByte (s : State) (addr : Word) (v : Byte) (x : Word) :
    (s.writeByte addr v).readByte x = if x = addr then v else s.readByte x := by
  simp only [State.readByte, State.writeByte, Memory.read_write, BitVec.toNat_inj]

@[simp] theorem State.readByte_writeByte_same (s : State) (addr : Word) (v : Byte) :
    (s.writeByte addr v).readByte addr = v := by
  simp [State.readByte_writeByte]

theorem State.readByte_writeByte_other (s : State) {addr x : Word} (v : Byte) (hx : x ≠ addr) :
    (s.writeByte addr v).readByte x = s.readByte x := by
  simp [State.readByte_writeByte, hx]

theorem State.writeByte_wf {s : State} (addr : Word) (v : Byte) (h : s.mem.wf = true) :
    (s.writeByte addr v).mem.wf = true :=
  Memory.write_wf v addr.isLt h

end Sys2Proof.Machine
end

