-- ==== Sys2Proof/Laws/Boot.lean ====
section
/-! SUPPORT. Laws of boot: the post-boot table is inside the address space, what writing pairs leaves, and boot without
an image gives State.reset. -/

namespace Sys2Proof.Machine

theorem postBoot_in_space : ∀ p ∈ Config.postBoot, p.1 < Config.memorySize := by decide

theorem postBoot_keys_nodup : (Config.postBoot.map Prod.fst).Nodup := by decide

theorem Memory.zeroFilled_wf : Memory.zeroFilled.wf = true := by decide

/-- Reading after writing pairs with distinct addresses: the pair's byte, or what was there. -/
theorem Memory.read_writePairs (m : Memory) (ps : List (Nat × Byte)) (hps : (ps.map Prod.fst).Nodup) (x : Nat) :
    Memory.read (Memory.writePairs m ps) x = (ps.lookup x).getD (Memory.read m x) := by
  induction ps generalizing m with
  | nil => rfl
  | cons p rest ih =>
    rw [List.map_cons, List.nodup_cons] at hps
    rw [Memory.writePairs, ih _ hps.2, Memory.read_write, List.lookup_cons]
    by_cases hx : x = p.1
    · subst hx
      have hnone : rest.lookup p.1 = none := by
        rw [List.lookup_eq_none_iff]
        intro q hq
        exact bne_iff_ne.mpr fun heq => hps.1 (List.mem_map.mpr ⟨q, hq, heq.symm⟩)
      simp [hnone]
    · simp [beq_false_of_ne hx, hx]

/-- The memory boot leaves. -/
theorem boot_mem (r : Config.ResetRegs) (source : ImageSource) :
    (boot r source).state.mem =
      Memory.writePairs (Memory.loadSource Memory.zeroFilled source).1 Config.postBoot := by
  simp only [boot, State.ofBoot]

/-- State.reset is what boot makes without an image from the RESET_REGS of log 1. -/
theorem boot_absent_eq_reset : boot Config.resetRegs .absent = ⟨State.reset, none⟩ := by decide

end Sys2Proof.Machine
end

