-- ==== Sys2Proof/Laws/PerInstr.lean ====
section
/-! SUPPORT. Per-instruction laws: the encoder writes as many bytes as the opcode byte says (30_encoding.md R93). -/

namespace Sys2Proof.Laws.EncodedLength

/-- An encoded well-formed instruction is as long as its first byte says. -/
def Statement (i : Instr) : Prop :=
  i.wellFormed = true → (encode i).length = opcodeLength ((encode i).headD 0#8)

theorem nop : Statement (.nop) := fun _ => rfl
theorem ldBCd16 (n : Word) : Statement (.ldBCd16 n) := fun _ => rfl
theorem ldIndBCA : Statement (.ldIndBCA) := fun _ => rfl
theorem incBC : Statement (.incBC) := fun _ => rfl
theorem incB : Statement (.incB) := fun _ => rfl
theorem decB : Statement (.decB) := fun _ => rfl
theorem ldBd8 (n : Byte) : Statement (.ldBd8 n) := fun _ => rfl
theorem ldAIndBC : Statement (.ldAIndBC) := fun _ => rfl
theorem decBC : Statement (.decBC) := fun _ => rfl
theorem incC : Statement (.incC) := fun _ => rfl
theorem decC : Statement (.decC) := fun _ => rfl
theorem ldCd8 (n : Byte) : Statement (.ldCd8 n) := fun _ => rfl
theorem ldDEd16 (n : Word) : Statement (.ldDEd16 n) := fun _ => rfl
theorem ldIndDEA : Statement (.ldIndDEA) := fun _ => rfl
theorem incDE : Statement (.incDE) := fun _ => rfl
theorem incD : Statement (.incD) := fun _ => rfl
theorem decD : Statement (.decD) := fun _ => rfl
theorem ldDd8 (n : Byte) : Statement (.ldDd8 n) := fun _ => rfl
theorem ldAIndDE : Statement (.ldAIndDE) := fun _ => rfl
theorem decDE : Statement (.decDE) := fun _ => rfl
theorem incE : Statement (.incE) := fun _ => rfl
theorem decE : Statement (.decE) := fun _ => rfl
theorem ldEd8 (n : Byte) : Statement (.ldEd8 n) := fun _ => rfl
theorem ldHLd16 (n : Word) : Statement (.ldHLd16 n) := fun _ => rfl
theorem ldIndHLIncA : Statement (.ldIndHLIncA) := fun _ => rfl
theorem incHL : Statement (.incHL) := fun _ => rfl
theorem incH : Statement (.incH) := fun _ => rfl
theorem decH : Statement (.decH) := fun _ => rfl
theorem ldHd8 (n : Byte) : Statement (.ldHd8 n) := fun _ => rfl
theorem ldAIndHLInc : Statement (.ldAIndHLInc) := fun _ => rfl
theorem decHL : Statement (.decHL) := fun _ => rfl
theorem incL : Statement (.incL) := fun _ => rfl
theorem decL : Statement (.decL) := fun _ => rfl
theorem ldLd8 (n : Byte) : Statement (.ldLd8 n) := fun _ => rfl
theorem ldSPd16 (n : Word) : Statement (.ldSPd16 n) := fun _ => rfl
theorem ldIndHLDecA : Statement (.ldIndHLDecA) := fun _ => rfl
theorem incSP : Statement (.incSP) := fun _ => rfl
theorem incIndHL : Statement (.incIndHL) := fun _ => rfl
theorem decIndHL : Statement (.decIndHL) := fun _ => rfl
theorem ldIndHLd8 (n : Byte) : Statement (.ldIndHLd8 n) := fun _ => rfl
theorem ldAIndHLDec : Statement (.ldAIndHLDec) := fun _ => rfl
theorem decSP : Statement (.decSP) := fun _ => rfl
theorem incA : Statement (.incA) := fun _ => rfl
theorem decA : Statement (.decA) := fun _ => rfl
theorem ldAd8 (n : Byte) : Statement (.ldAd8 n) := fun _ => rfl
theorem ldBB : Statement (.ldBB) := fun _ => rfl
theorem ldBC : Statement (.ldBC) := fun _ => rfl
theorem ldBD : Statement (.ldBD) := fun _ => rfl
theorem ldBE : Statement (.ldBE) := fun _ => rfl
theorem ldBH : Statement (.ldBH) := fun _ => rfl
theorem ldBL : Statement (.ldBL) := fun _ => rfl
theorem ldBIndHL : Statement (.ldBIndHL) := fun _ => rfl
theorem ldBA : Statement (.ldBA) := fun _ => rfl
theorem ldCB : Statement (.ldCB) := fun _ => rfl
theorem ldCC : Statement (.ldCC) := fun _ => rfl
theorem ldCD : Statement (.ldCD) := fun _ => rfl
theorem ldCE : Statement (.ldCE) := fun _ => rfl
theorem ldCH : Statement (.ldCH) := fun _ => rfl
theorem ldCL : Statement (.ldCL) := fun _ => rfl
theorem ldCIndHL : Statement (.ldCIndHL) := fun _ => rfl
theorem ldCA : Statement (.ldCA) := fun _ => rfl
theorem ldDB : Statement (.ldDB) := fun _ => rfl
theorem ldDC : Statement (.ldDC) := fun _ => rfl
theorem ldDD : Statement (.ldDD) := fun _ => rfl
theorem ldDE : Statement (.ldDE) := fun _ => rfl
theorem ldDH : Statement (.ldDH) := fun _ => rfl
theorem ldDL : Statement (.ldDL) := fun _ => rfl
theorem ldDIndHL : Statement (.ldDIndHL) := fun _ => rfl
theorem ldDA : Statement (.ldDA) := fun _ => rfl
theorem ldEB : Statement (.ldEB) := fun _ => rfl
theorem ldEC : Statement (.ldEC) := fun _ => rfl
theorem ldED : Statement (.ldED) := fun _ => rfl
theorem ldEE : Statement (.ldEE) := fun _ => rfl
theorem ldEH : Statement (.ldEH) := fun _ => rfl
theorem ldEL : Statement (.ldEL) := fun _ => rfl
theorem ldEIndHL : Statement (.ldEIndHL) := fun _ => rfl
theorem ldEA : Statement (.ldEA) := fun _ => rfl
theorem ldHB : Statement (.ldHB) := fun _ => rfl
theorem ldHC : Statement (.ldHC) := fun _ => rfl
theorem ldHD : Statement (.ldHD) := fun _ => rfl
theorem ldHE : Statement (.ldHE) := fun _ => rfl
theorem ldHH : Statement (.ldHH) := fun _ => rfl
theorem ldHL : Statement (.ldHL) := fun _ => rfl
theorem ldHIndHL : Statement (.ldHIndHL) := fun _ => rfl
theorem ldHA : Statement (.ldHA) := fun _ => rfl
theorem ldLB : Statement (.ldLB) := fun _ => rfl
theorem ldLC : Statement (.ldLC) := fun _ => rfl
theorem ldLD : Statement (.ldLD) := fun _ => rfl
theorem ldLE : Statement (.ldLE) := fun _ => rfl
theorem ldLH : Statement (.ldLH) := fun _ => rfl
theorem ldLL : Statement (.ldLL) := fun _ => rfl
theorem ldLIndHL : Statement (.ldLIndHL) := fun _ => rfl
theorem ldLA : Statement (.ldLA) := fun _ => rfl
theorem ldIndHLB : Statement (.ldIndHLB) := fun _ => rfl
theorem ldIndHLC : Statement (.ldIndHLC) := fun _ => rfl
theorem ldIndHLD : Statement (.ldIndHLD) := fun _ => rfl
theorem ldIndHLE : Statement (.ldIndHLE) := fun _ => rfl
theorem ldIndHLH : Statement (.ldIndHLH) := fun _ => rfl
theorem ldIndHLL : Statement (.ldIndHLL) := fun _ => rfl
theorem ldIndHLA : Statement (.ldIndHLA) := fun _ => rfl
theorem ldAB : Statement (.ldAB) := fun _ => rfl
theorem ldAC : Statement (.ldAC) := fun _ => rfl
theorem ldAD : Statement (.ldAD) := fun _ => rfl
theorem ldAE : Statement (.ldAE) := fun _ => rfl
theorem ldAH : Statement (.ldAH) := fun _ => rfl
theorem ldAL : Statement (.ldAL) := fun _ => rfl
theorem ldAIndHL : Statement (.ldAIndHL) := fun _ => rfl
theorem ldAA : Statement (.ldAA) := fun _ => rfl
theorem addAB : Statement (.addAB) := fun _ => rfl
theorem addAC : Statement (.addAC) := fun _ => rfl
theorem addAD : Statement (.addAD) := fun _ => rfl
theorem addAE : Statement (.addAE) := fun _ => rfl
theorem addAH : Statement (.addAH) := fun _ => rfl
theorem addAL : Statement (.addAL) := fun _ => rfl
theorem addAIndHL : Statement (.addAIndHL) := fun _ => rfl
theorem addAA : Statement (.addAA) := fun _ => rfl
theorem adcAB : Statement (.adcAB) := fun _ => rfl
theorem adcAC : Statement (.adcAC) := fun _ => rfl
theorem adcAD : Statement (.adcAD) := fun _ => rfl
theorem adcAE : Statement (.adcAE) := fun _ => rfl
theorem adcAH : Statement (.adcAH) := fun _ => rfl
theorem adcAL : Statement (.adcAL) := fun _ => rfl
theorem adcAIndHL : Statement (.adcAIndHL) := fun _ => rfl
theorem adcAA : Statement (.adcAA) := fun _ => rfl
theorem subAB : Statement (.subAB) := fun _ => rfl
theorem subAC : Statement (.subAC) := fun _ => rfl
theorem subAD : Statement (.subAD) := fun _ => rfl
theorem subAE : Statement (.subAE) := fun _ => rfl
theorem subAH : Statement (.subAH) := fun _ => rfl
theorem subAL : Statement (.subAL) := fun _ => rfl
theorem subAIndHL : Statement (.subAIndHL) := fun _ => rfl
theorem subAA : Statement (.subAA) := fun _ => rfl
theorem sbcAB : Statement (.sbcAB) := fun _ => rfl
theorem sbcAC : Statement (.sbcAC) := fun _ => rfl
theorem sbcAD : Statement (.sbcAD) := fun _ => rfl
theorem sbcAE : Statement (.sbcAE) := fun _ => rfl
theorem sbcAH : Statement (.sbcAH) := fun _ => rfl
theorem sbcAL : Statement (.sbcAL) := fun _ => rfl
theorem sbcAIndHL : Statement (.sbcAIndHL) := fun _ => rfl
theorem sbcAA : Statement (.sbcAA) := fun _ => rfl
theorem andAB : Statement (.andAB) := fun _ => rfl
theorem andAC : Statement (.andAC) := fun _ => rfl
theorem andAD : Statement (.andAD) := fun _ => rfl
theorem andAE : Statement (.andAE) := fun _ => rfl
theorem andAH : Statement (.andAH) := fun _ => rfl
theorem andAL : Statement (.andAL) := fun _ => rfl
theorem andAIndHL : Statement (.andAIndHL) := fun _ => rfl
theorem andAA : Statement (.andAA) := fun _ => rfl
theorem xorAB : Statement (.xorAB) := fun _ => rfl
theorem xorAC : Statement (.xorAC) := fun _ => rfl
theorem xorAD : Statement (.xorAD) := fun _ => rfl
theorem xorAE : Statement (.xorAE) := fun _ => rfl
theorem xorAH : Statement (.xorAH) := fun _ => rfl
theorem xorAL : Statement (.xorAL) := fun _ => rfl
theorem xorAIndHL : Statement (.xorAIndHL) := fun _ => rfl
theorem xorAA : Statement (.xorAA) := fun _ => rfl
theorem orAB : Statement (.orAB) := fun _ => rfl
theorem orAC : Statement (.orAC) := fun _ => rfl
theorem orAD : Statement (.orAD) := fun _ => rfl
theorem orAE : Statement (.orAE) := fun _ => rfl
theorem orAH : Statement (.orAH) := fun _ => rfl
theorem orAL : Statement (.orAL) := fun _ => rfl
theorem orAIndHL : Statement (.orAIndHL) := fun _ => rfl
theorem orAA : Statement (.orAA) := fun _ => rfl
theorem cpAB : Statement (.cpAB) := fun _ => rfl
theorem cpAC : Statement (.cpAC) := fun _ => rfl
theorem cpAD : Statement (.cpAD) := fun _ => rfl
theorem cpAE : Statement (.cpAE) := fun _ => rfl
theorem cpAH : Statement (.cpAH) := fun _ => rfl
theorem cpAL : Statement (.cpAL) := fun _ => rfl
theorem cpAIndHL : Statement (.cpAIndHL) := fun _ => rfl
theorem cpAA : Statement (.cpAA) := fun _ => rfl
theorem popBC : Statement (.popBC) := fun _ => rfl
theorem pushBC : Statement (.pushBC) := fun _ => rfl
theorem addAd8 (n : Byte) : Statement (.addAd8 n) := fun _ => rfl
theorem adcAd8 (n : Byte) : Statement (.adcAd8 n) := fun _ => rfl
theorem popDE : Statement (.popDE) := fun _ => rfl
theorem pushDE : Statement (.pushDE) := fun _ => rfl
theorem subAd8 (n : Byte) : Statement (.subAd8 n) := fun _ => rfl
theorem sbcAd8 (n : Byte) : Statement (.sbcAd8 n) := fun _ => rfl
theorem popHL : Statement (.popHL) := fun _ => rfl
theorem ldHighCA : Statement (.ldHighCA) := fun _ => rfl
theorem pushHL : Statement (.pushHL) := fun _ => rfl
theorem andAd8 (n : Byte) : Statement (.andAd8 n) := fun _ => rfl
theorem ldAbsA (addr : Word) : Statement (.ldAbsA addr) := fun _ => rfl
theorem xorAd8 (n : Byte) : Statement (.xorAd8 n) := fun _ => rfl
theorem popAF : Statement (.popAF) := fun _ => rfl
theorem ldAHighC : Statement (.ldAHighC) := fun _ => rfl
theorem pushAF : Statement (.pushAF) := fun _ => rfl
theorem orAd8 (n : Byte) : Statement (.orAd8 n) := fun _ => rfl
theorem ldAAbs (addr : Word) : Statement (.ldAAbs addr) := fun _ => rfl
theorem cpAd8 (n : Byte) : Statement (.cpAd8 n) := fun _ => rfl

/-- No invalid byte is among those that take operand bytes. -/
theorem invalid_length : ∀ op ∈ invalidOpcodes, opcodeLength op = 1 := by decide

theorem invalid (op : Byte) : Statement (.invalid op) := fun h =>
  (invalid_length op (List.contains_iff_mem.mp h)).symm

end Sys2Proof.Laws.EncodedLength
end

