-- ==== Sys2Proof/Laws/Decode.lean ====
section
/-! SUPPORT. Laws of the decoder: what the opcode table holds for each byte, and what the decoder answers from it. -/

namespace Sys2Proof

/-- What a slot of the opcode table means for the byte it stands at: the instruction's encoding begins with that byte, its
operand bytes follow, and the byte is or is not one of the invalid ones. -/
def Slot.Meets (op : Byte) : Slot → Prop
  | .op i => i.wellFormed = true ∧ encode i = [op] ∧ op ∉ invalidOpcodes ∧ opcodeLength op = 1
  | .opD8 k => (∀ n, (k n).wellFormed = true ∧ encode (k n) = [op, n]) ∧ op ∉ invalidOpcodes ∧ opcodeLength op = 2
  | .opD16 k =>
    (∀ n, (k n).wellFormed = true ∧ encode (k n) = [op, n.extractLsb' 0 8, n.extractLsb' 8 8]) ∧
      op ∉ invalidOpcodes ∧ opcodeLength op = 3
  | .invalid => op ∈ invalidOpcodes ∧ opcodeLength op = 1

/-- Each of the 256 bytes has a slot of the kind its length says, and the invalid ones are the listed ones. -/
theorem lookup_kind : ∀ op : Byte,
    (match lookup op with
      | .op i => decide (i.wellFormed = true ∧ encode i = [op] ∧ op ∉ invalidOpcodes ∧ opcodeLength op = 1)
      | .opD8 k => decide ((k 0#8).wellFormed = true ∧ op ∉ invalidOpcodes ∧ opcodeLength op = 2)
      | .opD16 k => decide ((k 0#16).wellFormed = true ∧ op ∉ invalidOpcodes ∧ opcodeLength op = 3)
      | .invalid => decide (op ∈ invalidOpcodes ∧ opcodeLength op = 1)) = true := by decide

/-- The operand bytes of a slot's instruction follow its opcode byte, whatever they are. -/
def Slot.CarriesOperand (op : Byte) : Slot → Prop
  | .opD8 k => ∀ n, (k n).wellFormed = true ∧ encode (k n) = [op, n]
  | .opD16 k => ∀ n, (k n).wellFormed = true ∧ encode (k n) = [op, n.extractLsb' 0 8, n.extractLsb' 8 8]
  | .op _ => True
  | .invalid => True

theorem lookup_carriesOperand (op : Byte) : (lookup op).CarriesOperand op := by
  obtain ⟨n, hn, rfl⟩ : ∃ n, n < 256 ∧ op = BitVec.ofNat 8 n := ⟨op.toNat, op.isLt, by simp⟩
  interval_cases n
  all_goals first
    | exact trivial
    | exact show Slot.CarriesOperand _ (.opD8 _) from fun _ => ⟨rfl, rfl⟩
    | exact show Slot.CarriesOperand _ (.opD16 _) from fun _ => ⟨rfl, rfl⟩

theorem lookup_meets (op : Byte) : (lookup op).Meets op := by
  have hkind := lookup_kind op
  have hcarry := lookup_carriesOperand op
  cases h : lookup op with
  | op i => rw [h] at hkind; simp only [decide_eq_true_eq] at hkind; exact hkind
  | opD8 k => rw [h] at hkind hcarry; exact ⟨hcarry, (of_decide_eq_true hkind).2⟩
  | opD16 k => rw [h] at hkind hcarry; exact ⟨hcarry, (of_decide_eq_true hkind).2⟩
  | invalid => rw [h] at hkind; simp only [decide_eq_true_eq] at hkind; exact hkind
/-! ### The decoder, per slot -/

theorem decode_of_op {op : Byte} {i : Instr} (h : lookup op = .op i) (rest : List Byte) :
    decode (op :: rest) = .ok (i, rest) := by simp [decode, h]

theorem decode_of_opD8 {op : Byte} {k : Byte → Instr} (h : lookup op = .opD8 k) (n : Byte) (rest : List Byte) :
    decode (op :: n :: rest) = .ok (k n, rest) := by simp [decode, h]

theorem decode_of_opD16 {op : Byte} {k : Word → Instr} (h : lookup op = .opD16 k) (lo hi : Byte) (rest : List Byte) :
    decode (op :: lo :: hi :: rest) = .ok (k (hi ++ lo), rest) := by simp [decode, h]

theorem decode_of_invalid {op : Byte} (h : lookup op = .invalid) (rest : List Byte) :
    decode (op :: rest) = .ok (.invalid op, rest) := by simp [decode, h]

end Sys2Proof
end

