-- ==== Sys2Proof/Laws/Forms.lean ====
section
/-! SUPPORT. Every instruction is one of seventeen operand-indexed forms, so that a law about all instructions is proved
by a case split over the forms. -/

namespace Sys2Proof

/-- The forms of an instruction, with their operands. -/
inductive Form where
  | nop
  | invalid (op : Byte)
  | alu (o : AluOp) (src : Src8)
  | inc8 (dst : Operand8)
  | dec8 (dst : Operand8)
  | inc16 (p : RegPair)
  | dec16 (p : RegPair)
  | ldRegReg (dst src : Reg8)
  | ldRegInd (dst : Reg8)
  | ldIndReg (src : Reg8)
  | ldRegImm (dst : Reg8) (n : Byte)
  | ldIndImm (n : Byte)
  | ldPairImm (p : RegPair) (n : Word)
  | loadAcc (m : AccMode)
  | storeAcc (m : AccMode)
  | push (q : Pair)
  | pop (q : Pair)

/-- The instruction of a form. -/
def Form.instr : Form → Instr
  | .nop => .nop
  | .invalid op => .invalid op
  | .alu o src => Instr.alu o src
  | .inc8 dst => Instr.inc8 dst
  | .dec8 dst => Instr.dec8 dst
  | .inc16 p => Instr.inc16 p
  | .dec16 p => Instr.dec16 p
  | .ldRegReg dst src => Instr.ldRegReg dst src
  | .ldRegInd dst => Instr.ldRegInd dst
  | .ldIndReg src => Instr.ldIndReg src
  | .ldRegImm dst n => Instr.ldRegImm dst n
  | .ldIndImm n => Instr.ldIndImm n
  | .ldPairImm p n => Instr.ldPairImm p n
  | .loadAcc m => Instr.loadAcc m
  | .storeAcc m => Instr.storeAcc m
  | .push q => Instr.push q
  | .pop q => Instr.pop q

/-- The form of an instruction. -/
def Instr.form : Instr → Form
  | .nop => .nop
  | .ldBCd16 n => .ldPairImm .bc n
  | .ldIndBCA => .storeAcc .indBC
  | .incBC => .inc16 .bc
  | .incB => .inc8 (.reg .b)
  | .decB => .dec8 (.reg .b)
  | .ldBd8 n => .ldRegImm .b n
  | .ldAIndBC => .loadAcc .indBC
  | .decBC => .dec16 .bc
  | .incC => .inc8 (.reg .c)
  | .decC => .dec8 (.reg .c)
  | .ldCd8 n => .ldRegImm .c n
  | .ldDEd16 n => .ldPairImm .de n
  | .ldIndDEA => .storeAcc .indDE
  | .incDE => .inc16 .de
  | .incD => .inc8 (.reg .d)
  | .decD => .dec8 (.reg .d)
  | .ldDd8 n => .ldRegImm .d n
  | .ldAIndDE => .loadAcc .indDE
  | .decDE => .dec16 .de
  | .incE => .inc8 (.reg .e)
  | .decE => .dec8 (.reg .e)
  | .ldEd8 n => .ldRegImm .e n
  | .ldHLd16 n => .ldPairImm .hl n
  | .ldIndHLIncA => .storeAcc .hlInc
  | .incHL => .inc16 .hl
  | .incH => .inc8 (.reg .h)
  | .decH => .dec8 (.reg .h)
  | .ldHd8 n => .ldRegImm .h n
  | .ldAIndHLInc => .loadAcc .hlInc
  | .decHL => .dec16 .hl
  | .incL => .inc8 (.reg .l)
  | .decL => .dec8 (.reg .l)
  | .ldLd8 n => .ldRegImm .l n
  | .ldSPd16 n => .ldPairImm .sp n
  | .ldIndHLDecA => .storeAcc .hlDec
  | .incSP => .inc16 .sp
  | .incIndHL => .inc8 .indHL
  | .decIndHL => .dec8 .indHL
  | .ldIndHLd8 n => .ldIndImm n
  | .ldAIndHLDec => .loadAcc .hlDec
  | .decSP => .dec16 .sp
  | .incA => .inc8 (.reg .a)
  | .decA => .dec8 (.reg .a)
  | .ldAd8 n => .ldRegImm .a n
  | .ldBB => .ldRegReg .b .b
  | .ldBC => .ldRegReg .b .c
  | .ldBD => .ldRegReg .b .d
  | .ldBE => .ldRegReg .b .e
  | .ldBH => .ldRegReg .b .h
  | .ldBL => .ldRegReg .b .l
  | .ldBIndHL => .ldRegInd .b
  | .ldBA => .ldRegReg .b .a
  | .ldCB => .ldRegReg .c .b
  | .ldCC => .ldRegReg .c .c
  | .ldCD => .ldRegReg .c .d
  | .ldCE => .ldRegReg .c .e
  | .ldCH => .ldRegReg .c .h
  | .ldCL => .ldRegReg .c .l
  | .ldCIndHL => .ldRegInd .c
  | .ldCA => .ldRegReg .c .a
  | .ldDB => .ldRegReg .d .b
  | .ldDC => .ldRegReg .d .c
  | .ldDD => .ldRegReg .d .d
  | .ldDE => .ldRegReg .d .e
  | .ldDH => .ldRegReg .d .h
  | .ldDL => .ldRegReg .d .l
  | .ldDIndHL => .ldRegInd .d
  | .ldDA => .ldRegReg .d .a
  | .ldEB => .ldRegReg .e .b
  | .ldEC => .ldRegReg .e .c
  | .ldED => .ldRegReg .e .d
  | .ldEE => .ldRegReg .e .e
  | .ldEH => .ldRegReg .e .h
  | .ldEL => .ldRegReg .e .l
  | .ldEIndHL => .ldRegInd .e
  | .ldEA => .ldRegReg .e .a
  | .ldHB => .ldRegReg .h .b
  | .ldHC => .ldRegReg .h .c
  | .ldHD => .ldRegReg .h .d
  | .ldHE => .ldRegReg .h .e
  | .ldHH => .ldRegReg .h .h
  | .ldHL => .ldRegReg .h .l
  | .ldHIndHL => .ldRegInd .h
  | .ldHA => .ldRegReg .h .a
  | .ldLB => .ldRegReg .l .b
  | .ldLC => .ldRegReg .l .c
  | .ldLD => .ldRegReg .l .d
  | .ldLE => .ldRegReg .l .e
  | .ldLH => .ldRegReg .l .h
  | .ldLL => .ldRegReg .l .l
  | .ldLIndHL => .ldRegInd .l
  | .ldLA => .ldRegReg .l .a
  | .ldIndHLB => .ldIndReg .b
  | .ldIndHLC => .ldIndReg .c
  | .ldIndHLD => .ldIndReg .d
  | .ldIndHLE => .ldIndReg .e
  | .ldIndHLH => .ldIndReg .h
  | .ldIndHLL => .ldIndReg .l
  | .ldIndHLA => .ldIndReg .a
  | .ldAB => .ldRegReg .a .b
  | .ldAC => .ldRegReg .a .c
  | .ldAD => .ldRegReg .a .d
  | .ldAE => .ldRegReg .a .e
  | .ldAH => .ldRegReg .a .h
  | .ldAL => .ldRegReg .a .l
  | .ldAIndHL => .ldRegInd .a
  | .ldAA => .ldRegReg .a .a
  | .addAB => .alu .add (.reg .b)
  | .addAC => .alu .add (.reg .c)
  | .addAD => .alu .add (.reg .d)
  | .addAE => .alu .add (.reg .e)
  | .addAH => .alu .add (.reg .h)
  | .addAL => .alu .add (.reg .l)
  | .addAIndHL => .alu .add .indHL
  | .addAA => .alu .add (.reg .a)
  | .adcAB => .alu .adc (.reg .b)
  | .adcAC => .alu .adc (.reg .c)
  | .adcAD => .alu .adc (.reg .d)
  | .adcAE => .alu .adc (.reg .e)
  | .adcAH => .alu .adc (.reg .h)
  | .adcAL => .alu .adc (.reg .l)
  | .adcAIndHL => .alu .adc .indHL
  | .adcAA => .alu .adc (.reg .a)
  | .subAB => .alu .sub (.reg .b)
  | .subAC => .alu .sub (.reg .c)
  | .subAD => .alu .sub (.reg .d)
  | .subAE => .alu .sub (.reg .e)
  | .subAH => .alu .sub (.reg .h)
  | .subAL => .alu .sub (.reg .l)
  | .subAIndHL => .alu .sub .indHL
  | .subAA => .alu .sub (.reg .a)
  | .sbcAB => .alu .sbc (.reg .b)
  | .sbcAC => .alu .sbc (.reg .c)
  | .sbcAD => .alu .sbc (.reg .d)
  | .sbcAE => .alu .sbc (.reg .e)
  | .sbcAH => .alu .sbc (.reg .h)
  | .sbcAL => .alu .sbc (.reg .l)
  | .sbcAIndHL => .alu .sbc .indHL
  | .sbcAA => .alu .sbc (.reg .a)
  | .andAB => .alu .and (.reg .b)
  | .andAC => .alu .and (.reg .c)
  | .andAD => .alu .and (.reg .d)
  | .andAE => .alu .and (.reg .e)
  | .andAH => .alu .and (.reg .h)
  | .andAL => .alu .and (.reg .l)
  | .andAIndHL => .alu .and .indHL
  | .andAA => .alu .and (.reg .a)
  | .xorAB => .alu .xor (.reg .b)
  | .xorAC => .alu .xor (.reg .c)
  | .xorAD => .alu .xor (.reg .d)
  | .xorAE => .alu .xor (.reg .e)
  | .xorAH => .alu .xor (.reg .h)
  | .xorAL => .alu .xor (.reg .l)
  | .xorAIndHL => .alu .xor .indHL
  | .xorAA => .alu .xor (.reg .a)
  | .orAB => .alu .or (.reg .b)
  | .orAC => .alu .or (.reg .c)
  | .orAD => .alu .or (.reg .d)
  | .orAE => .alu .or (.reg .e)
  | .orAH => .alu .or (.reg .h)
  | .orAL => .alu .or (.reg .l)
  | .orAIndHL => .alu .or .indHL
  | .orAA => .alu .or (.reg .a)
  | .cpAB => .alu .cp (.reg .b)
  | .cpAC => .alu .cp (.reg .c)
  | .cpAD => .alu .cp (.reg .d)
  | .cpAE => .alu .cp (.reg .e)
  | .cpAH => .alu .cp (.reg .h)
  | .cpAL => .alu .cp (.reg .l)
  | .cpAIndHL => .alu .cp .indHL
  | .cpAA => .alu .cp (.reg .a)
  | .popBC => .pop .bc
  | .pushBC => .push .bc
  | .addAd8 n => .alu .add (.imm n)
  | .adcAd8 n => .alu .adc (.imm n)
  | .popDE => .pop .de
  | .pushDE => .push .de
  | .subAd8 n => .alu .sub (.imm n)
  | .sbcAd8 n => .alu .sbc (.imm n)
  | .popHL => .pop .hl
  | .ldHighCA => .storeAcc .highC
  | .pushHL => .push .hl
  | .andAd8 n => .alu .and (.imm n)
  | .ldAbsA addr => .storeAcc (.abs addr)
  | .xorAd8 n => .alu .xor (.imm n)
  | .popAF => .pop .af
  | .ldAHighC => .loadAcc .highC
  | .pushAF => .push .af
  | .orAd8 n => .alu .or (.imm n)
  | .ldAAbs addr => .loadAcc (.abs addr)
  | .cpAd8 n => .alu .cp (.imm n)
  | .invalid op => .invalid op

@[simp] theorem Instr.form_instr (i : Instr) : i.form.instr = i := by cases i <;> rfl

/-- A property of every form is a property of every instruction. -/
theorem Instr.forall_of_forms {P : Instr → Prop} (h : ∀ fm : Form, P fm.instr) (i : Instr) : P i :=
  i.form_instr ▸ h i.form

end Sys2Proof
end

