-- ==== Sys2Proof/Laws/State.lean ====
section
/-! SUPPORT. One lemma per field per update, so that no later proof unfolds a record update. -/

namespace Sys2Proof.Machine

/-! ### Writing F -/

@[simp] theorem State.setF_a (s : State) (v : Byte) : (s.setF v).a = s.a := rfl
@[simp] theorem State.setF_b (s : State) (v : Byte) : (s.setF v).b = s.b := rfl
@[simp] theorem State.setF_c (s : State) (v : Byte) : (s.setF v).c = s.c := rfl
@[simp] theorem State.setF_d (s : State) (v : Byte) : (s.setF v).d = s.d := rfl
@[simp] theorem State.setF_e (s : State) (v : Byte) : (s.setF v).e = s.e := rfl
@[simp] theorem State.setF_h (s : State) (v : Byte) : (s.setF v).h = s.h := rfl
@[simp] theorem State.setF_l (s : State) (v : Byte) : (s.setF v).l = s.l := rfl
@[simp] theorem State.setF_sp (s : State) (v : Byte) : (s.setF v).sp = s.sp := rfl
@[simp] theorem State.setF_pc (s : State) (v : Byte) : (s.setF v).pc = s.pc := rfl
@[simp] theorem State.setF_mem (s : State) (v : Byte) : (s.setF v).mem = s.mem := rfl
@[simp] theorem State.setF_f (s : State) (v : Byte) : (s.setF v).f = v &&& 0xF0#8 := rfl
@[simp] theorem State.setF_reg8 (s : State) (v : Byte) (r : Reg8) : (s.setF v).reg8 r = s.reg8 r := by cases r <;> rfl

/-! ### Storing a byte -/

@[simp] theorem State.writeByte_a (s : State) (addr : Word) (v : Byte) : (s.writeByte addr v).a = s.a := rfl
@[simp] theorem State.writeByte_f (s : State) (addr : Word) (v : Byte) : (s.writeByte addr v).f = s.f := rfl
@[simp] theorem State.writeByte_b (s : State) (addr : Word) (v : Byte) : (s.writeByte addr v).b = s.b := rfl
@[simp] theorem State.writeByte_c (s : State) (addr : Word) (v : Byte) : (s.writeByte addr v).c = s.c := rfl
@[simp] theorem State.writeByte_d (s : State) (addr : Word) (v : Byte) : (s.writeByte addr v).d = s.d := rfl
@[simp] theorem State.writeByte_e (s : State) (addr : Word) (v : Byte) : (s.writeByte addr v).e = s.e := rfl
@[simp] theorem State.writeByte_h (s : State) (addr : Word) (v : Byte) : (s.writeByte addr v).h = s.h := rfl
@[simp] theorem State.writeByte_l (s : State) (addr : Word) (v : Byte) : (s.writeByte addr v).l = s.l := rfl
@[simp] theorem State.writeByte_sp (s : State) (addr : Word) (v : Byte) : (s.writeByte addr v).sp = s.sp := rfl
@[simp] theorem State.writeByte_pc (s : State) (addr : Word) (v : Byte) : (s.writeByte addr v).pc = s.pc := rfl
@[simp] theorem State.writeByte_reg8 (s : State) (addr : Word) (v : Byte) (r : Reg8) : (s.writeByte addr v).reg8 r = s.reg8 r := by
  cases r <;> rfl
@[simp] theorem State.writeByte_pair (s : State) (addr : Word) (v : Byte) (q : Pair) : (s.writeByte addr v).pair q = s.pair q := by
  cases q <;> rfl

/-! ### Writing a register -/

@[simp] theorem State.setReg8_f (s : State) (r : Reg8) (v : Byte) : (s.setReg8 r v).f = s.f := by cases r <;> rfl
@[simp] theorem State.setReg8_sp (s : State) (r : Reg8) (v : Byte) : (s.setReg8 r v).sp = s.sp := by cases r <;> rfl
@[simp] theorem State.setReg8_pc (s : State) (r : Reg8) (v : Byte) : (s.setReg8 r v).pc = s.pc := by cases r <;> rfl
@[simp] theorem State.setReg8_mem (s : State) (r : Reg8) (v : Byte) : (s.setReg8 r v).mem = s.mem := by cases r <;> rfl
@[simp] theorem State.setReg8_eq_b (s : State) (v : Byte) : s.setReg8 .b v = { s with b := v } := rfl
@[simp] theorem State.setReg8_eq_c (s : State) (v : Byte) : s.setReg8 .c v = { s with c := v } := rfl
@[simp] theorem State.setReg8_eq_d (s : State) (v : Byte) : s.setReg8 .d v = { s with d := v } := rfl
@[simp] theorem State.setReg8_eq_e (s : State) (v : Byte) : s.setReg8 .e v = { s with e := v } := rfl
@[simp] theorem State.setReg8_eq_h (s : State) (v : Byte) : s.setReg8 .h v = { s with h := v } := rfl
@[simp] theorem State.setReg8_eq_l (s : State) (v : Byte) : s.setReg8 .l v = { s with l := v } := rfl
@[simp] theorem State.setReg8_eq_a (s : State) (v : Byte) : s.setReg8 .a v = { s with a := v } := rfl
@[simp] theorem State.reg8_eq_b (s : State) : s.reg8 .b = s.b := rfl
@[simp] theorem State.reg8_eq_c (s : State) : s.reg8 .c = s.c := rfl
@[simp] theorem State.reg8_eq_d (s : State) : s.reg8 .d = s.d := rfl
@[simp] theorem State.reg8_eq_e (s : State) : s.reg8 .e = s.e := rfl
@[simp] theorem State.reg8_eq_h (s : State) : s.reg8 .h = s.h := rfl
@[simp] theorem State.reg8_eq_l (s : State) : s.reg8 .l = s.l := rfl
@[simp] theorem State.reg8_eq_a (s : State) : s.reg8 .a = s.a := rfl

/-- A register read after a register write. -/
theorem State.reg8_setReg8 (s : State) (r x : Reg8) (v : Byte) :
    (s.setReg8 r v).reg8 x = if x = r then v else s.reg8 x := by
  cases r <;> cases x <;> rfl

/-! ### Writing a pair -/

@[simp] theorem State.setPair_sp (s : State) (q : Pair) (v : Word) : (s.setPair q v).sp = s.sp := by cases q <;> rfl
@[simp] theorem State.setPair_pc (s : State) (q : Pair) (v : Word) : (s.setPair q v).pc = s.pc := by cases q <;> rfl
@[simp] theorem State.setPair_mem (s : State) (q : Pair) (v : Word) : (s.setPair q v).mem = s.mem := by cases q <;> rfl

theorem State.setPair_f (s : State) (q : Pair) (v : Word) :
    (s.setPair q v).f = if q = .af then lowByte v &&& 0xF0#8 else s.f := by cases q <;> rfl

@[simp] theorem State.setRegPair_f (s : State) (p : RegPair) (v : Word) : (s.setRegPair p v).f = s.f := by cases p <;> rfl
@[simp] theorem State.setRegPair_pc (s : State) (p : RegPair) (v : Word) : (s.setRegPair p v).pc = s.pc := by cases p <;> rfl
@[simp] theorem State.setRegPair_mem (s : State) (p : RegPair) (v : Word) : (s.setRegPair p v).mem = s.mem := by cases p <;> rfl

/-! ### Writing the accumulator and the flags -/

@[simp] theorem State.setAcc_b (s : State) (o : AluOut) : (s.setAcc o).b = s.b := rfl
@[simp] theorem State.setAcc_c (s : State) (o : AluOut) : (s.setAcc o).c = s.c := rfl
@[simp] theorem State.setAcc_d (s : State) (o : AluOut) : (s.setAcc o).d = s.d := rfl
@[simp] theorem State.setAcc_e (s : State) (o : AluOut) : (s.setAcc o).e = s.e := rfl
@[simp] theorem State.setAcc_h (s : State) (o : AluOut) : (s.setAcc o).h = s.h := rfl
@[simp] theorem State.setAcc_l (s : State) (o : AluOut) : (s.setAcc o).l = s.l := rfl
@[simp] theorem State.setAcc_sp (s : State) (o : AluOut) : (s.setAcc o).sp = s.sp := rfl
@[simp] theorem State.setAcc_pc (s : State) (o : AluOut) : (s.setAcc o).pc = s.pc := rfl
@[simp] theorem State.setAcc_mem (s : State) (o : AluOut) : (s.setAcc o).mem = s.mem := rfl
@[simp] theorem State.setAcc_a (s : State) (o : AluOut) : (s.setAcc o).a = o.result := rfl
@[simp] theorem State.setAcc_f (s : State) (o : AluOut) : (s.setAcc o).f = o.flags &&& 0xF0#8 := rfl

/-! ### Fetching a byte -/

@[simp] theorem State.fetch8_a (s : State) : s.fetch8.2.a = s.a := rfl
@[simp] theorem State.fetch8_f (s : State) : s.fetch8.2.f = s.f := rfl
@[simp] theorem State.fetch8_b (s : State) : s.fetch8.2.b = s.b := rfl
@[simp] theorem State.fetch8_c (s : State) : s.fetch8.2.c = s.c := rfl
@[simp] theorem State.fetch8_d (s : State) : s.fetch8.2.d = s.d := rfl
@[simp] theorem State.fetch8_e (s : State) : s.fetch8.2.e = s.e := rfl
@[simp] theorem State.fetch8_h (s : State) : s.fetch8.2.h = s.h := rfl
@[simp] theorem State.fetch8_l (s : State) : s.fetch8.2.l = s.l := rfl
@[simp] theorem State.fetch8_sp (s : State) : s.fetch8.2.sp = s.sp := rfl
@[simp] theorem State.fetch8_mem (s : State) : s.fetch8.2.mem = s.mem := rfl
@[simp] theorem State.fetch8_pc (s : State) : s.fetch8.2.pc = s.pc + 1#16 := rfl
@[simp] theorem State.fetch8_fst (s : State) : s.fetch8.1 = s.readByte s.pc := rfl
@[simp] theorem State.fetch8_readByte (s : State) (addr : Word) : s.fetch8.2.readByte addr = s.readByte addr := rfl

/-! ### Memory seen through updates that leave it alone -/

@[simp] theorem State.withPC_readByte (s : State) (pc : Word) (addr : Word) :
    ({ s with pc := pc } : State).readByte addr = s.readByte addr := rfl
@[simp] theorem State.withSP_readByte (s : State) (sp : Word) (addr : Word) :
    ({ s with sp := sp } : State).readByte addr = s.readByte addr := rfl
@[simp] theorem State.setF_readByte (s : State) (v : Byte) (addr : Word) : (s.setF v).readByte addr = s.readByte addr := rfl
@[simp] theorem State.setAcc_readByte (s : State) (o : AluOut) (addr : Word) : (s.setAcc o).readByte addr = s.readByte addr := rfl
@[simp] theorem State.setReg8_readByte (s : State) (r : Reg8) (v : Byte) (addr : Word) :
    (s.setReg8 r v).readByte addr = s.readByte addr := by simp [State.readByte]
@[simp] theorem State.setPair_readByte (s : State) (q : Pair) (v : Word) (addr : Word) :
    (s.setPair q v).readByte addr = s.readByte addr := by simp [State.readByte]
@[simp] theorem State.setRegPair_readByte (s : State) (p : RegPair) (v : Word) (addr : Word) :
    (s.setRegPair p v).readByte addr = s.readByte addr := by simp [State.readByte]

/-! ### The side effect of an addressing mode -/

@[simp] theorem State.afterAccess_a (s : State) (m : AccMode) : (s.afterAccess m).a = s.a := by cases m <;> rfl
@[simp] theorem State.afterAccess_f (s : State) (m : AccMode) : (s.afterAccess m).f = s.f := by cases m <;> rfl
@[simp] theorem State.afterAccess_sp (s : State) (m : AccMode) : (s.afterAccess m).sp = s.sp := by cases m <;> rfl
@[simp] theorem State.afterAccess_pc (s : State) (m : AccMode) : (s.afterAccess m).pc = s.pc := by cases m <;> rfl
@[simp] theorem State.afterAccess_mem (s : State) (m : AccMode) : (s.afterAccess m).mem = s.mem := by cases m <;> rfl

/-! ### Changing an operand in place -/

@[simp] theorem State.setOperand8_f (s : State) (dst : Operand8) (v : Byte) : (s.setOperand8 dst v).f = s.f := by
  cases dst <;> simp [State.setOperand8]
@[simp] theorem State.setOperand8_sp (s : State) (dst : Operand8) (v : Byte) : (s.setOperand8 dst v).sp = s.sp := by
  cases dst <;> simp [State.setOperand8]
@[simp] theorem State.setOperand8_pc (s : State) (dst : Operand8) (v : Byte) : (s.setOperand8 dst v).pc = s.pc := by
  cases dst <;> simp [State.setOperand8]

end Sys2Proof.Machine
end

