-- ==== Sys2Proof/Laws/Flags.lean ====
section
/-! SUPPORT. Laws of the flag byte. -/

namespace Sys2Proof.Machine

@[simp] theorem packFlags_bit7 (z n hf cy : Bool) : (packFlags z n hf cy).getLsbD 7 = z := by
  cases z <;> cases n <;> cases hf <;> cases cy <;> rfl
@[simp] theorem packFlags_bit6 (z n hf cy : Bool) : (packFlags z n hf cy).getLsbD 6 = n := by
  cases z <;> cases n <;> cases hf <;> cases cy <;> rfl
@[simp] theorem packFlags_bit5 (z n hf cy : Bool) : (packFlags z n hf cy).getLsbD 5 = hf := by
  cases z <;> cases n <;> cases hf <;> cases cy <;> rfl
@[simp] theorem packFlags_bit4 (z n hf cy : Bool) : (packFlags z n hf cy).getLsbD 4 = cy := by
  cases z <;> cases n <;> cases hf <;> cases cy <;> rfl

@[simp] theorem packFlags_get7 (z n hf cy : Bool) : (packFlags z n hf cy)[7] = z := packFlags_bit7 z n hf cy
@[simp] theorem packFlags_get6 (z n hf cy : Bool) : (packFlags z n hf cy)[6] = n := packFlags_bit6 z n hf cy
@[simp] theorem packFlags_get5 (z n hf cy : Bool) : (packFlags z n hf cy)[5] = hf := packFlags_bit5 z n hf cy
@[simp] theorem packFlags_get4 (z n hf cy : Bool) : (packFlags z n hf cy)[4] = cy := packFlags_bit4 z n hf cy

@[simp] theorem packFlags_masked (z n hf cy : Bool) : packFlags z n hf cy &&& 0xF0#8 = packFlags z n hf cy := by
  cases z <;> cases n <;> cases hf <;> cases cy <;> rfl
@[simp] theorem packFlags_lowNibble (z n hf cy : Bool) : packFlags z n hf cy &&& 0x0F#8 = 0#8 := by
  cases z <;> cases n <;> cases hf <;> cases cy <;> rfl

/-- The low nibble of a byte is its value modulo 16. -/
theorem lowNibble_eq_mod (x : Byte) : lowNibble x = x.toNat % 16 := by
  unfold lowNibble
  rw [BitVec.toNat_and]
  exact Nat.and_two_pow_sub_one_eq_mod x.toNat 4

/-- A masked byte has bits 7 to 4 of the byte. -/
theorem getLsbD_and_F0 (v : Byte) (fl : Flag) : (v &&& 0xF0#8).getLsbD fl.bit = v.getLsbD fl.bit := by
  cases fl <;> simp [Flag.bit]

theorem and_F0_and_0F (v : Byte) : v &&& 0xF0#8 &&& 0x0F#8 = 0#8 := by
  rw [BitVec.and_assoc]
  exact BitVec.and_zero

/-- Whatever is written to F, its low nibble is zero afterwards. -/
@[simp] theorem State.setF_fClean (s : State) (v : Byte) : (s.setF v).fClean = true := by
  simp [State.fClean, and_F0_and_0F]

@[simp] theorem State.setAcc_fClean (s : State) (o : AluOut) : (s.setAcc o).fClean = true := State.setF_fClean _ _

theorem State.fClean_congr {s t : State} (h : t.f = s.f) : t.fClean = s.fClean := by simp [State.fClean, h]

@[simp] theorem State.getFlag_setF (s : State) (v : Byte) (fl : Flag) : (s.setF v).getFlag fl = v.getLsbD fl.bit :=
  getLsbD_and_F0 v fl

@[simp] theorem State.getFlag_setAcc (s : State) (o : AluOut) (fl : Flag) :
    (s.setAcc o).getFlag fl = o.flags.getLsbD fl.bit := State.getFlag_setF _ _ _

end Sys2Proof.Machine
end

