-- ==== Sys2Proof/Laws/Ops.lean ====
section
/-! SUPPORT. Spec lemmas of the shared operations: byte order, fetch, push, pop, operands. -/

namespace Sys2Proof.Machine

/-! ### Byte order -/

@[simp] theorem highByte_joinBytes (hi lo : Byte) : highByte (joinBytes hi lo) = hi := by
  unfold highByte joinBytes
  ext i hi'
  rw [BitVec.getElem_extractLsb']
  exact (BitVec.getLsbD_append (x := hi) (y := lo) (i := 8 + i)).trans (by simp [hi'])

@[simp] theorem lowByte_joinBytes (hi lo : Byte) : lowByte (joinBytes hi lo) = lo := by
  unfold lowByte joinBytes
  ext i hi'
  rw [BitVec.getElem_extractLsb']
  exact (BitVec.getLsbD_append (x := hi) (y := lo) (i := 0 + i)).trans (by simp [hi'])

@[simp] theorem joinBytes_high_low (v : Word) : joinBytes (highByte v) (lowByte v) = v := by
  unfold highByte lowByte joinBytes
  ext i hi'
  simp only [BitVec.getElem_append, BitVec.getElem_extractLsb', Nat.zero_add]
  split
  · exact BitVec.getLsbD_eq_getElem hi'
  · rw [show 8 + (i - 8) = i by omega]
    exact BitVec.getLsbD_eq_getElem hi'

/-- `hi || lo` is 256 hi + lo (00_scope.md R6). -/
theorem joinBytes_toNat (hi lo : Byte) : (joinBytes hi lo).toNat = 256 * hi.toNat + lo.toNat := by
  have h : (joinBytes hi lo).toNat = hi.toNat <<< 8 ||| lo.toNat := BitVec.toNat_append hi lo
  rw [h, ← Nat.shiftLeft_add_eq_or_of_lt lo.isLt, Nat.shiftLeft_eq]
  omega

/-- `hi || lo` is `(hi << 8) | lo` (00_scope.md R6). -/
theorem joinBytes_eq_or (hi lo : Byte) : joinBytes hi lo = (hi.setWidth 16 <<< 8) ||| lo.setWidth 16 := by
  have h : (joinBytes hi lo).toNat = hi.toNat <<< 8 ||| lo.toNat := BitVec.toNat_append hi lo
  apply BitVec.eq_of_toNat_eq
  rw [h, BitVec.toNat_or, BitVec.toNat_shiftLeft, BitVec.toNat_setWidth_of_le (by decide),
    BitVec.toNat_setWidth_of_le (by decide), Nat.mod_eq_of_lt (by have := hi.isLt; rw [Nat.shiftLeft_eq]; omega)]

theorem highByte_eq (v : Word) : highByte v = (v >>> 8).setWidth 8 := by
  apply BitVec.eq_of_toNat_eq
  simp [highByte]

theorem lowByte_eq (v : Word) : lowByte v = v.setWidth 8 := by
  apply BitVec.eq_of_toNat_eq
  simp [lowByte]

/-! ### Fetch -/

/-- `Fetch16()` reads two bytes and moves PC by two. -/
theorem State.fetch16_eq (s : State) :
    s.fetch16 = (joinBytes (s.readByte (s.pc + 1#16)) (s.readByte s.pc), { s with pc := s.pc + 2#16 }) := by
  simp [State.fetch16, State.fetch8, State.readByte, BitVec.add_assoc]

/-! ### Stack -/

/-- Everything a push does: two bytes are stored and SP moves down by two. -/
theorem State.push_eq (s : State) (hi lo : Byte) :
    s.push hi lo =
      { (s.writeByte (s.sp - 1#16) hi).writeByte (s.sp - 2#16) lo with sp := s.sp - 2#16 } := by
  have h2 : s.sp - 1#16 - 1#16 = s.sp - 2#16 := by bv_omega
  simp [State.push, State.writeByte, h2]

/-- Everything a pop does: two bytes are read and SP moves up by two. -/
theorem State.pop_eq (s : State) :
    s.pop = (joinBytes (s.readByte (s.sp + 1#16)) (s.readByte s.sp), { s with sp := s.sp + 2#16 }) := by
  simp [State.pop, State.readByte, BitVec.add_assoc]

theorem State.pushPair_eq (s : State) (q : Pair) :
    s.pushPair q =
      { (s.writeByte (s.sp - 1#16) (highByte (s.pair q))).writeByte (s.sp - 2#16) (lowByte (s.pair q)) with
        sp := s.sp - 2#16 } := State.push_eq _ _ _

theorem State.popPair_eq (s : State) (q : Pair) :
    s.popPair q =
      ({ s with sp := s.sp + 2#16 }).setPair q (joinBytes (s.readByte (s.sp + 1#16)) (s.readByte s.sp)) := by
  rw [State.popPair, State.pop_eq]

/-! ### The canonical form through the operations -/

theorem State.setOperand8_wf {s : State} (dst : Operand8) (v : Byte) (h : s.mem.wf = true) :
    (s.setOperand8 dst v).mem.wf = true := by
  cases dst with
  | reg r => simpa [State.setOperand8] using h
  | indHL => exact State.writeByte_wf _ _ h

theorem State.modify8_wf {s : State} (prim : Byte → Byte → AluOut) (dst : Operand8) (h : s.mem.wf = true) :
    (s.modify8 prim dst).mem.wf = true := by
  simpa [State.modify8] using State.setOperand8_wf dst _ h

theorem State.storeAcc_wf {s : State} (m : AccMode) (h : s.mem.wf = true) : (s.storeAcc m).mem.wf = true := by
  simpa [State.storeAcc] using State.writeByte_wf (s.effAddr m) s.a h

theorem State.pushPair_wf {s : State} (q : Pair) (h : s.mem.wf = true) : (s.pushPair q).mem.wf = true := by
  rw [State.pushPair_eq]
  exact State.writeByte_wf _ _ (State.writeByte_wf _ _ h)

end Sys2Proof.Machine
end

