-- ==== Sys2Proof/Laws/Exec.lean ====
section
/-! SUPPORT. What `exec` does, per form: the one lemma each that later proofs cite instead of unfolding a meaning. -/

namespace Sys2Proof.Machine

theorem exec_nop (s : State) : exec .nop s = .next s := rfl

theorem exec_invalid (op : Byte) (s : State) : exec (.invalid op) s = .fault (.invalidOpcode op (s.pc - 1#16) s) := rfl

/-- What an ALU operation with second operand `b` does to the state. -/
def aluEffect (o : AluOp) (s : State) (b : Byte) : State :=
  match o with
  | .add => s.setAcc (add8 s.a b)
  | .adc => s.setAcc (adc8 s.a b s.cin)
  | .sub => s.setAcc (sub8 s.a b)
  | .sbc => s.setAcc (sbc8 s.a b s.cin)
  | .and => s.setAcc (and8 s.a b)
  | .xor => s.setAcc (xor8 s.a b)
  | .or => s.setAcc (or8 s.a b)
  | .cp => s.setF (cp8 s.a b)

theorem exec_alu (o : AluOp) (src : Src8) (s : State) :
    exec (Instr.alu o src) s = .next (aluEffect o s (s.src8 src)) := by
  cases src with
  | reg r => cases o <;> cases r <;> rfl
  | indHL => cases o <;> rfl
  | imm n => cases o <;> rfl

theorem exec_inc8 (dst : Operand8) (s : State) : exec (Instr.inc8 dst) s = .next (s.modify8 inc8 dst) := by
  cases dst with
  | reg r => cases r <;> rfl
  | indHL => rfl

theorem exec_dec8 (dst : Operand8) (s : State) : exec (Instr.dec8 dst) s = .next (s.modify8 dec8 dst) := by
  cases dst with
  | reg r => cases r <;> rfl
  | indHL => rfl

theorem exec_inc16 (p : RegPair) (s : State) :
    exec (Instr.inc16 p) s = .next (s.setRegPair p (s.regPair p + 1#16)) := by cases p <;> rfl

theorem exec_dec16 (p : RegPair) (s : State) :
    exec (Instr.dec16 p) s = .next (s.setRegPair p (s.regPair p - 1#16)) := by cases p <;> rfl

theorem exec_ldRegReg (dst src : Reg8) (s : State) :
    exec (Instr.ldRegReg dst src) s = .next (s.setReg8 dst (s.reg8 src)) := by cases dst <;> cases src <;> rfl

theorem exec_ldRegInd (dst : Reg8) (s : State) :
    exec (Instr.ldRegInd dst) s = .next (s.setReg8 dst (s.readByte s.hl)) := by cases dst <;> rfl

theorem exec_ldIndReg (src : Reg8) (s : State) :
    exec (Instr.ldIndReg src) s = .next (s.writeByte s.hl (s.reg8 src)) := by cases src <;> rfl

theorem exec_ldRegImm (dst : Reg8) (n : Byte) (s : State) :
    exec (Instr.ldRegImm dst n) s = .next (s.setReg8 dst n) := by cases dst <;> rfl

theorem exec_ldIndImm (n : Byte) (s : State) : exec (Instr.ldIndImm n) s = .next (s.writeByte s.hl n) := rfl

theorem exec_ldPairImm (p : RegPair) (n : Word) (s : State) :
    exec (Instr.ldPairImm p n) s = .next (s.setRegPair p n) := by cases p <;> rfl

theorem exec_loadAcc (m : AccMode) (s : State) : exec (Instr.loadAcc m) s = .next (s.loadAcc m) := by cases m <;> rfl

theorem exec_storeAcc (m : AccMode) (s : State) : exec (Instr.storeAcc m) s = .next (s.storeAcc m) := by cases m <;> rfl

theorem exec_push (q : Pair) (s : State) : exec (Instr.push q) s = .next (s.pushPair q) := by cases q <;> rfl

theorem exec_pop (q : Pair) (s : State) : exec (Instr.pop q) s = .next (s.popPair q) := by cases q <;> rfl

/-- What a form does to the state; nothing for the invalid byte, which faults. -/
def Form.effect (fm : Form) (s : State) : Option State :=
  match fm with
  | .nop => some s
  | .invalid _ => none
  | .alu o src => some (aluEffect o s (s.src8 src))
  | .inc8 dst => some (s.modify8 Machine.inc8 dst)
  | .dec8 dst => some (s.modify8 Machine.dec8 dst)
  | .inc16 p => some (s.setRegPair p (s.regPair p + 1#16))
  | .dec16 p => some (s.setRegPair p (s.regPair p - 1#16))
  | .ldRegReg dst src => some (s.setReg8 dst (s.reg8 src))
  | .ldRegInd dst => some (s.setReg8 dst (s.readByte s.hl))
  | .ldIndReg src => some (s.writeByte s.hl (s.reg8 src))
  | .ldRegImm dst n => some (s.setReg8 dst n)
  | .ldIndImm n => some (s.writeByte s.hl n)
  | .ldPairImm p n => some (s.setRegPair p n)
  | .loadAcc m => some (s.loadAcc m)
  | .storeAcc m => some (s.storeAcc m)
  | .push q => some (s.pushPair q)
  | .pop q => some (s.popPair q)

/-- An instruction that answers a next state is a form whose effect is that state: everything an instruction can do. -/
theorem exec_next_effect {i : Instr} {s t : State} (h : exec i s = .next t) : Form.effect i.form s = some t := by
  rw [← i.form_instr] at h
  generalize i.form = fm at h
  cases fm <;>
    simp only [Form.instr, exec_nop, exec_invalid, exec_alu, exec_inc8, exec_dec8, exec_inc16, exec_dec16, exec_ldRegReg,
      exec_ldRegInd, exec_ldIndReg, exec_ldRegImm, exec_ldIndImm, exec_ldPairImm, exec_loadAcc, exec_storeAcc, exec_push,
      exec_pop, Host.Outcome.next.injEq, reduceCtorEq] at h <;>
    simp only [Form.effect, h]

/-- An instruction answers a next state or it is an invalid byte and faults. -/
theorem exec_cases (i : Instr) (s : State) :
    (∃ t, exec i s = .next t) ∨ ∃ op, i = .invalid op ∧ exec i s = .fault (.invalidOpcode op (s.pc - 1#16) s) := by
  cases i
  case invalid op => exact .inr ⟨op, rfl, rfl⟩
  all_goals exact .inl ⟨_, rfl⟩

end Sys2Proof.Machine
end

