-- ==== Sys2Proof/Laws/Step.lean ====
section
/-! SUPPORT. What fetching does, per slot of the opcode table, and what a step does. -/

namespace Sys2Proof.Machine

theorem step_eq (s : State) : step s = exec (fetchInstr s).1 (fetchInstr s).2 := rfl

theorem fetchInstr_of_op {s : State} {i : Instr} (h : lookup (s.readByte s.pc) = .op i) :
    fetchInstr s = (i, { s with pc := s.pc + 1#16 }) := by simp [fetchInstr, h, State.fetch8]

theorem fetchInstr_of_opD8 {s : State} {k : Byte → Instr} (h : lookup (s.readByte s.pc) = .opD8 k) :
    fetchInstr s = (k (s.readByte (s.pc + 1#16)), { s with pc := s.pc + 2#16 }) := by
  simp [fetchInstr, h, State.fetch8, BitVec.add_assoc]

theorem fetchInstr_of_opD16 {s : State} {k : Word → Instr} (h : lookup (s.readByte s.pc) = .opD16 k) :
    fetchInstr s =
      (k (joinBytes (s.readByte (s.pc + 2#16)) (s.readByte (s.pc + 1#16))), { s with pc := s.pc + 3#16 }) := by
  simp [fetchInstr, h, State.fetch16_eq, State.fetch8, BitVec.add_assoc]

theorem fetchInstr_of_invalid {s : State} (h : lookup (s.readByte s.pc) = .invalid) :
    fetchInstr s = (.invalid (s.readByte s.pc), { s with pc := s.pc + 1#16 }) := by simp [fetchInstr, h, State.fetch8]

/-- Fetching changes PC only. -/
theorem fetchInstr_frame (s : State) : (fetchInstr s).2 = { s with pc := (fetchInstr s).2.pc } := by
  cases h : lookup (s.readByte s.pc) with
  | op i => rw [fetchInstr_of_op h]
  | opD8 k => rw [fetchInstr_of_opD8 h]
  | opD16 k => rw [fetchInstr_of_opD16 h]
  | invalid => rw [fetchInstr_of_invalid h]

end Sys2Proof.Machine
end

