-- ==== Sys2Proof/Tests/Grid.lean ====
section
/-! SUPPORT. The decoding of all 256 opcode bytes, each written out row by row from the grid of 30_encoding.md R97, with
0x34 0x12 after the opcode. -/

namespace Sys2Proof.Tests

/-- The instructions of the sixteen bytes of a row of the grid. -/
def gridRow (row : Nat) : List (Option Instr) :=
  (List.range 16).map fun col =>
    match decode [BitVec.ofNat 8 (16 * row + col), 0x34#8, 0x12#8] with
    | .ok (i, _) => some i
    | .error _ => none

theorem test_grid_row_0 : gridRow 0x0 =
      [some Instr.nop, some (Instr.ldBCd16 0x1234#16), some Instr.ldIndBCA, some Instr.incBC] ++
      [some Instr.incB, some Instr.decB, some (Instr.ldBd8 0x34#8), some (.invalid 0x07#8)] ++
      [some (.invalid 0x08#8), some (.invalid 0x09#8), some Instr.ldAIndBC, some Instr.decBC] ++
      [some Instr.incC, some Instr.decC, some (Instr.ldCd8 0x34#8), some (.invalid 0x0F#8)] := by decide

theorem test_grid_row_1 : gridRow 0x1 =
      [some (.invalid 0x10#8), some (Instr.ldDEd16 0x1234#16), some Instr.ldIndDEA, some Instr.incDE] ++
      [some Instr.incD, some Instr.decD, some (Instr.ldDd8 0x34#8), some (.invalid 0x17#8)] ++
      [some (.invalid 0x18#8), some (.invalid 0x19#8), some Instr.ldAIndDE, some Instr.decDE] ++
      [some Instr.incE, some Instr.decE, some (Instr.ldEd8 0x34#8), some (.invalid 0x1F#8)] := by decide

theorem test_grid_row_2 : gridRow 0x2 =
      [some (.invalid 0x20#8), some (Instr.ldHLd16 0x1234#16), some Instr.ldIndHLIncA, some Instr.incHL] ++
      [some Instr.incH, some Instr.decH, some (Instr.ldHd8 0x34#8), some (.invalid 0x27#8)] ++
      [some (.invalid 0x28#8), some (.invalid 0x29#8), some Instr.ldAIndHLInc, some Instr.decHL] ++
      [some Instr.incL, some Instr.decL, some (Instr.ldLd8 0x34#8), some (.invalid 0x2F#8)] := by decide

theorem test_grid_row_3 : gridRow 0x3 =
      [some (.invalid 0x30#8), some (Instr.ldSPd16 0x1234#16), some Instr.ldIndHLDecA, some Instr.incSP] ++
      [some Instr.incIndHL, some Instr.decIndHL, some (Instr.ldIndHLd8 0x34#8), some (.invalid 0x37#8)] ++
      [some (.invalid 0x38#8), some (.invalid 0x39#8), some Instr.ldAIndHLDec, some Instr.decSP] ++
      [some Instr.incA, some Instr.decA, some (Instr.ldAd8 0x34#8), some (.invalid 0x3F#8)] := by decide

theorem test_grid_row_4 : gridRow 0x4 =
      [some Instr.ldBB, some Instr.ldBC, some Instr.ldBD, some Instr.ldBE] ++
      [some Instr.ldBH, some Instr.ldBL, some Instr.ldBIndHL, some Instr.ldBA] ++
      [some Instr.ldCB, some Instr.ldCC, some Instr.ldCD, some Instr.ldCE] ++
      [some Instr.ldCH, some Instr.ldCL, some Instr.ldCIndHL, some Instr.ldCA] := by decide

theorem test_grid_row_5 : gridRow 0x5 =
      [some Instr.ldDB, some Instr.ldDC, some Instr.ldDD, some Instr.ldDE] ++
      [some Instr.ldDH, some Instr.ldDL, some Instr.ldDIndHL, some Instr.ldDA] ++
      [some Instr.ldEB, some Instr.ldEC, some Instr.ldED, some Instr.ldEE] ++
      [some Instr.ldEH, some Instr.ldEL, some Instr.ldEIndHL, some Instr.ldEA] := by decide

theorem test_grid_row_6 : gridRow 0x6 =
      [some Instr.ldHB, some Instr.ldHC, some Instr.ldHD, some Instr.ldHE] ++
      [some Instr.ldHH, some Instr.ldHL, some Instr.ldHIndHL, some Instr.ldHA] ++
      [some Instr.ldLB, some Instr.ldLC, some Instr.ldLD, some Instr.ldLE] ++
      [some Instr.ldLH, some Instr.ldLL, some Instr.ldLIndHL, some Instr.ldLA] := by decide

theorem test_grid_row_7 : gridRow 0x7 =
      [some Instr.ldIndHLB, some Instr.ldIndHLC, some Instr.ldIndHLD, some Instr.ldIndHLE] ++
      [some Instr.ldIndHLH, some Instr.ldIndHLL, some (.invalid 0x76#8), some Instr.ldIndHLA] ++
      [some Instr.ldAB, some Instr.ldAC, some Instr.ldAD, some Instr.ldAE] ++
      [some Instr.ldAH, some Instr.ldAL, some Instr.ldAIndHL, some Instr.ldAA] := by decide

theorem test_grid_row_8 : gridRow 0x8 =
      [some Instr.addAB, some Instr.addAC, some Instr.addAD, some Instr.addAE] ++
      [some Instr.addAH, some Instr.addAL, some Instr.addAIndHL, some Instr.addAA] ++
      [some Instr.adcAB, some Instr.adcAC, some Instr.adcAD, some Instr.adcAE] ++
      [some Instr.adcAH, some Instr.adcAL, some Instr.adcAIndHL, some Instr.adcAA] := by decide

theorem test_grid_row_9 : gridRow 0x9 =
      [some Instr.subAB, some Instr.subAC, some Instr.subAD, some Instr.subAE] ++
      [some Instr.subAH, some Instr.subAL, some Instr.subAIndHL, some Instr.subAA] ++
      [some Instr.sbcAB, some Instr.sbcAC, some Instr.sbcAD, some Instr.sbcAE] ++
      [some Instr.sbcAH, some Instr.sbcAL, some Instr.sbcAIndHL, some Instr.sbcAA] := by decide

theorem test_grid_row_A : gridRow 0xA =
      [some Instr.andAB, some Instr.andAC, some Instr.andAD, some Instr.andAE] ++
      [some Instr.andAH, some Instr.andAL, some Instr.andAIndHL, some Instr.andAA] ++
      [some Instr.xorAB, some Instr.xorAC, some Instr.xorAD, some Instr.xorAE] ++
      [some Instr.xorAH, some Instr.xorAL, some Instr.xorAIndHL, some Instr.xorAA] := by decide

theorem test_grid_row_B : gridRow 0xB =
      [some Instr.orAB, some Instr.orAC, some Instr.orAD, some Instr.orAE] ++
      [some Instr.orAH, some Instr.orAL, some Instr.orAIndHL, some Instr.orAA] ++
      [some Instr.cpAB, some Instr.cpAC, some Instr.cpAD, some Instr.cpAE] ++
      [some Instr.cpAH, some Instr.cpAL, some Instr.cpAIndHL, some Instr.cpAA] := by decide

theorem test_grid_row_C : gridRow 0xC =
      [some (.invalid 0xC0#8), some Instr.popBC, some (.invalid 0xC2#8), some (.invalid 0xC3#8)] ++
      [some (.invalid 0xC4#8), some Instr.pushBC, some (Instr.addAd8 0x34#8), some (.invalid 0xC7#8)] ++
      [some (.invalid 0xC8#8), some (.invalid 0xC9#8), some (.invalid 0xCA#8), some (.invalid 0xCB#8)] ++
      [some (.invalid 0xCC#8), some (.invalid 0xCD#8), some (Instr.adcAd8 0x34#8), some (.invalid 0xCF#8)] := by decide

theorem test_grid_row_D : gridRow 0xD =
      [some (.invalid 0xD0#8), some Instr.popDE, some (.invalid 0xD2#8), some (.invalid 0xD3#8)] ++
      [some (.invalid 0xD4#8), some Instr.pushDE, some (Instr.subAd8 0x34#8), some (.invalid 0xD7#8)] ++
      [some (.invalid 0xD8#8), some (.invalid 0xD9#8), some (.invalid 0xDA#8), some (.invalid 0xDB#8)] ++
      [some (.invalid 0xDC#8), some (.invalid 0xDD#8), some (Instr.sbcAd8 0x34#8), some (.invalid 0xDF#8)] := by decide

theorem test_grid_row_E : gridRow 0xE =
      [some (.invalid 0xE0#8), some Instr.popHL, some Instr.ldHighCA, some (.invalid 0xE3#8)] ++
      [some (.invalid 0xE4#8), some Instr.pushHL, some (Instr.andAd8 0x34#8), some (.invalid 0xE7#8)] ++
      [some (.invalid 0xE8#8), some (.invalid 0xE9#8), some (Instr.ldAbsA 0x1234#16), some (.invalid 0xEB#8)] ++
      [some (.invalid 0xEC#8), some (.invalid 0xED#8), some (Instr.xorAd8 0x34#8), some (.invalid 0xEF#8)] := by decide

theorem test_grid_row_F : gridRow 0xF =
      [some (.invalid 0xF0#8), some Instr.popAF, some Instr.ldAHighC, some (.invalid 0xF3#8)] ++
      [some (.invalid 0xF4#8), some Instr.pushAF, some (Instr.orAd8 0x34#8), some (.invalid 0xF7#8)] ++
      [some (.invalid 0xF8#8), some (.invalid 0xF9#8), some (Instr.ldAAbs 0x1234#16), some (.invalid 0xFB#8)] ++
      [some (.invalid 0xFC#8), some (.invalid 0xFD#8), some (Instr.cpAd8 0x34#8), some (.invalid 0xFF#8)] := by decide

end Sys2Proof.Tests
end

