-- ==== Sys2Proof/Tests/Slice0.lean ====
section
/-! SUPPORT. The model's own tests: the checks of WellFormed, the test vectors of 95_test_vectors.md part 2 (every
expected value is the spec's), and one witness for the hypotheses of every statement that has them. -/

namespace Sys2Proof.Tests

open Sys2Proof.Machine

/-! ### WellFormed -/

theorem test_wellFormed_refuses_invalid_nop : (Instr.invalid 0x00#8).wellFormed = false := by decide
theorem test_wellFormed_refuses_invalid_cp_d8 : (Instr.invalid 0xFE#8).wellFormed = false := by decide
theorem test_wellFormed_accepts_the_listed_bytes :
    (Instr.invalid 0x07#8).wellFormed = true ∧ (Instr.invalid 0x76#8).wellFormed = true ∧
    (Instr.invalid 0xFF#8).wellFormed = true := by decide
theorem test_wellFormed_accepts_every_immediate : ∀ n : Byte, (Instr.ldAd8 n).wellFormed = true := fun _ => rfl

/-! ### Decode and encode -/

theorem test_decode_empty : decode [] = .error .noOpcode := by decide
theorem test_decode_truncated :
    decode [0x3E#8] = .error (.truncated 0x3E#8) ∧ decode [0xEA#8, 0x34#8] = .error (.truncated 0xEA#8) := by decide
theorem test_encode_low_byte_first : encode (.ldAbsA 0xC234#16) = [0xEA#8, 0x34#8, 0xC2#8] := by decide
theorem test_decodeTableWord :
    decodeTableWord 24 0x123421 = some (.ldHLd16 0x1234#16) ∧ decodeTableWord 8 0x2A = some .ldAIndHLInc ∧
    decodeTableWord 8 0x3E = some (.ldAd8 0x00#8) ∧ decodeTableWord 8 0xD3 = some (.invalid 0xD3#8) := by decide

/-! ### The vectors -/

/-- A machine as part 2 of the vectors starts one: booted, registers 0, PC at 0xC800, then the vector's registers,
the code at PC and the vector's bytes by host writes. -/
def start (code : List Byte) (cells : List (Word × Byte)) (regs : State → State) : State :=
  ((regs State.reset).writeBytes (regs State.reset).pc code).hostWrites cells

/-- One step of `s` completes and differs from `s` by the named registers and bytes and nothing else. -/
def gives (s : State) (regs : State → State) (cells : List (Word × Byte)) : Bool :=
  match step s with
  | .next t => t == (regs s).hostWrites cells
  | .fault _ => false
  | .refused _ => false

/-- One step of `s` raises InvalidOpcode with this byte and address, and PC alone has changed, to `pc`. -/
def faults (s : State) (op : Byte) (addr pc : Word) : Bool :=
  match step s with
  | .next _ => false
  | .fault (.invalidOpcode o a t) => o == op && a == addr && t == { s with pc := pc }
  | .refused _ => false

theorem test_vectors_add :
    gives (start [0x80#8] [] (fun s => { s with a := 0x3A#8, b := 0xC6#8, pc := 0xC800#16 }))
      (fun s => { s with a := 0x00#8, f := 0xB0#8, pc := 0xC801#16 }) [] = true /- A1 -/ ∧
    gives (start [0x87#8] [] (fun s => { s with a := 0x88#8, f := 0xF0#8, pc := 0xC800#16 }))
      (fun s => { s with a := 0x10#8, f := 0x30#8, pc := 0xC801#16 }) [] = true /- A2 -/ ∧
    gives (start [0x86#8] [(0xC000#16, 0x12#8)]
      (fun s => { s with a := 0x3C#8, h := 0xC0#8, l := 0x00#8, pc := 0xC800#16 }))
      (fun s => { s with a := 0x4E#8, pc := 0xC801#16 }) [] = true /- A3 -/ ∧
    gives (start [0xC6#8, 0x01#8] [] (fun s => { s with a := 0x0F#8, f := 0x10#8, pc := 0xC800#16 }))
      (fun s => { s with a := 0x10#8, f := 0x20#8, pc := 0xC802#16 }) [] = true /- A4 -/ ∧
    gives (start [0xC6#8, 0x01#8] [] (fun s => { s with a := 0xFF#8, pc := 0xC800#16 }))
      (fun s => { s with a := 0x00#8, f := 0xB0#8, pc := 0xC802#16 }) [] = true /- A5 -/ ∧
    gives (start [0xC6#8, 0x80#8] [] (fun s => { s with a := 0x80#8, pc := 0xC800#16 }))
      (fun s => { s with a := 0x00#8, f := 0x90#8, pc := 0xC802#16 }) [] = true /- A6 -/ := by decide

theorem test_vectors_adc :
    gives (start [0x8B#8] [] (fun s => { s with a := 0xE1#8, e := 0x0F#8, f := 0x10#8, pc := 0xC800#16 }))
      (fun s => { s with a := 0xF1#8, f := 0x20#8, pc := 0xC801#16 }) [] = true /- A7 -/ ∧
    gives (start [0x8B#8] [] (fun s => { s with a := 0xE1#8, e := 0x0F#8, f := 0x00#8, pc := 0xC800#16 }))
      (fun s => { s with a := 0xF0#8, f := 0x20#8, pc := 0xC801#16 }) [] = true /- A8 -/ ∧
    gives (start [0x8E#8] [(0xC000#16, 0x7F#8)]
      (fun s => { s with a := 0x80#8, h := 0xC0#8, l := 0x00#8, f := 0x10#8, pc := 0xC800#16 }))
      (fun s => { s with a := 0x00#8, f := 0xB0#8, pc := 0xC801#16 }) [] = true /- A9 -/ ∧
    gives (start [0xCE#8, 0xFF#8] [] (fun s => { s with a := 0xFF#8, f := 0x10#8, pc := 0xC800#16 }))
      (fun s => { s with f := 0x30#8, pc := 0xC802#16 }) [] = true /- A10 -/ ∧
    gives (start [0xCE#8, 0x00#8] [] (fun s => { s with a := 0xFF#8, f := 0x10#8, pc := 0xC800#16 }))
      (fun s => { s with a := 0x00#8, f := 0xB0#8, pc := 0xC802#16 }) [] = true /- A11 -/ ∧
    gives (start [0x8F#8] [] (fun s => { s with a := 0x80#8, f := 0x10#8, pc := 0xC800#16 }))
      (fun s => { s with a := 0x01#8, pc := 0xC801#16 }) [] = true /- A12 -/ := by decide

theorem test_vectors_sub :
    gives (start [0x93#8] [] (fun s => { s with a := 0x3E#8, e := 0x0F#8, pc := 0xC800#16 }))
      (fun s => { s with a := 0x2F#8, f := 0x60#8, pc := 0xC801#16 }) [] = true /- A13 -/ ∧
    gives (start [0x96#8] [(0xC000#16, 0x40#8)]
      (fun s => { s with a := 0x3E#8, h := 0xC0#8, l := 0x00#8, pc := 0xC800#16 }))
      (fun s => { s with a := 0xFE#8, f := 0x50#8, pc := 0xC801#16 }) [] = true /- A14 -/ ∧
    gives (start [0xD6#8, 0x01#8] [] (fun s => { s with a := 0x00#8, pc := 0xC800#16 }))
      (fun s => { s with a := 0xFF#8, f := 0x70#8, pc := 0xC802#16 }) [] = true /- A15 -/ ∧
    gives (start [0x97#8] [] (fun s => { s with a := 0x5A#8, f := 0x10#8, pc := 0xC800#16 }))
      (fun s => { s with a := 0x00#8, f := 0xC0#8, pc := 0xC801#16 }) [] = true /- A16 -/ ∧
    gives (start [0xD6#8, 0x01#8] [] (fun s => { s with a := 0x10#8, pc := 0xC800#16 }))
      (fun s => { s with a := 0x0F#8, f := 0x60#8, pc := 0xC802#16 }) [] = true /- A17 -/ := by decide

theorem test_vectors_sbc :
    gives (start [0x9C#8] [] (fun s => { s with a := 0x3B#8, h := 0x2A#8, f := 0x10#8, pc := 0xC800#16 }))
      (fun s => { s with a := 0x10#8, f := 0x40#8, pc := 0xC801#16 }) [] = true /- A18 -/ ∧
    gives (start [0x9E#8] [(0xC000#16, 0x4F#8)]
      (fun s => { s with a := 0x3B#8, h := 0xC0#8, l := 0x00#8, f := 0x10#8, pc := 0xC800#16 }))
      (fun s => { s with a := 0xEB#8, f := 0x70#8, pc := 0xC801#16 }) [] = true /- A19 -/ ∧
    gives (start [0xDE#8, 0x3A#8] [] (fun s => { s with a := 0x3B#8, f := 0x10#8, pc := 0xC800#16 }))
      (fun s => { s with a := 0x00#8, f := 0xC0#8, pc := 0xC802#16 }) [] = true /- A20 -/ ∧
    gives (start [0xDE#8, 0xFF#8] [] (fun s => { s with a := 0x00#8, f := 0x10#8, pc := 0xC800#16 }))
      (fun s => { s with f := 0xF0#8, pc := 0xC802#16 }) [] = true /- A21 -/ ∧
    gives (start [0xDE#8, 0x0F#8] [] (fun s => { s with a := 0x10#8, f := 0x10#8, pc := 0xC800#16 }))
      (fun s => { s with a := 0x00#8, f := 0xE0#8, pc := 0xC802#16 }) [] = true /- A22 -/ ∧
    gives (start [0x9F#8] [] (fun s => { s with a := 0x77#8, f := 0x10#8, pc := 0xC800#16 }))
      (fun s => { s with a := 0xFF#8, f := 0x70#8, pc := 0xC801#16 }) [] = true /- A23 -/ ∧
    gives (start [0x9F#8] [] (fun s => { s with a := 0x77#8, f := 0x00#8, pc := 0xC800#16 }))
      (fun s => { s with a := 0x00#8, f := 0xC0#8, pc := 0xC801#16 }) [] = true /- A24 -/ := by decide

theorem test_vectors_and :
    gives (start [0xA5#8] [] (fun s => { s with a := 0x5A#8, l := 0x3F#8, f := 0xD0#8, pc := 0xC800#16 }))
      (fun s => { s with a := 0x1A#8, f := 0x20#8, pc := 0xC801#16 }) [] = true /- A25 -/ ∧
    gives (start [0xA6#8] [(0xC000#16, 0xA5#8)]
      (fun s => { s with a := 0x5A#8, h := 0xC0#8, l := 0x00#8, pc := 0xC800#16 }))
      (fun s => { s with a := 0x00#8, f := 0xA0#8, pc := 0xC801#16 }) [] = true /- A26 -/ ∧
    gives (start [0xE6#8, 0x38#8] [] (fun s => { s with a := 0x5A#8, pc := 0xC800#16 }))
      (fun s => { s with a := 0x18#8, f := 0x20#8, pc := 0xC802#16 }) [] = true /- A27 -/ ∧
    gives (start [0xA7#8] [] (fun s => { s with a := 0x00#8, f := 0x50#8, pc := 0xC800#16 }))
      (fun s => { s with f := 0xA0#8, pc := 0xC801#16 }) [] = true /- A28 -/ := by decide

theorem test_vectors_xor :
    gives (start [0xA8#8] [] (fun s => { s with a := 0xFF#8, b := 0x0F#8, f := 0xF0#8, pc := 0xC800#16 }))
      (fun s => { s with a := 0xF0#8, f := 0x00#8, pc := 0xC801#16 }) [] = true /- A29 -/ ∧
    gives (start [0xAE#8] [(0xC000#16, 0x3F#8)]
      (fun s => { s with a := 0x5A#8, h := 0xC0#8, l := 0x00#8, pc := 0xC800#16 }))
      (fun s => { s with a := 0x65#8, pc := 0xC801#16 }) [] = true /- A30 -/ ∧
    gives (start [0xEE#8, 0xFF#8] [] (fun s => { s with a := 0xFF#8, pc := 0xC800#16 }))
      (fun s => { s with a := 0x00#8, f := 0x80#8, pc := 0xC802#16 }) [] = true /- A31 -/ ∧
    gives (start [0xAF#8] [] (fun s => { s with a := 0x9C#8, f := 0x70#8, pc := 0xC800#16 }))
      (fun s => { s with a := 0x00#8, f := 0x80#8, pc := 0xC801#16 }) [] = true /- A32 -/ := by decide

theorem test_vectors_or :
    gives (start [0xB1#8] [] (fun s => { s with a := 0x5A#8, c := 0x3F#8, f := 0xF0#8, pc := 0xC800#16 }))
      (fun s => { s with a := 0x7F#8, f := 0x00#8, pc := 0xC801#16 }) [] = true /- A33 -/ ∧
    gives (start [0xB6#8] [(0xC000#16, 0xA5#8)]
      (fun s => { s with a := 0x5A#8, h := 0xC0#8, l := 0x00#8, pc := 0xC800#16 }))
      (fun s => { s with a := 0xFF#8, pc := 0xC801#16 }) [] = true /- A34 -/ ∧
    gives (start [0xF6#8, 0x00#8] [] (fun s => { s with a := 0x00#8, f := 0x70#8, pc := 0xC800#16 }))
      (fun s => { s with f := 0x80#8, pc := 0xC802#16 }) [] = true /- A35 -/ ∧
    gives (start [0xB7#8] [] (fun s => { s with a := 0x01#8, f := 0xF0#8, pc := 0xC800#16 }))
      (fun s => { s with f := 0x00#8, pc := 0xC801#16 }) [] = true /- A36 -/ := by decide

theorem test_vectors_cp :
    gives (start [0xB8#8] [] (fun s => { s with a := 0x3C#8, b := 0x2F#8, pc := 0xC800#16 }))
      (fun s => { s with f := 0x60#8, pc := 0xC801#16 }) [] = true /- A37 -/ ∧
    gives (start [0xBE#8] [(0xC000#16, 0x40#8)]
      (fun s => { s with a := 0x3C#8, h := 0xC0#8, l := 0x00#8, pc := 0xC800#16 }))
      (fun s => { s with f := 0x50#8, pc := 0xC801#16 }) [] = true /- A38 -/ ∧
    gives (start [0xFE#8, 0x3C#8] [] (fun s => { s with a := 0x3C#8, pc := 0xC800#16 }))
      (fun s => { s with f := 0xC0#8, pc := 0xC802#16 }) [] = true /- A39 -/ ∧
    gives (start [0xBF#8] [] (fun s => { s with a := 0xE7#8, f := 0x30#8, pc := 0xC800#16 }))
      (fun s => { s with f := 0xC0#8, pc := 0xC801#16 }) [] = true /- A40 -/ := by decide

theorem test_vectors_inc_byte :
    gives (start [0x04#8] [] (fun s => { s with b := 0xFF#8, f := 0x10#8, pc := 0xC800#16 }))
      (fun s => { s with f := 0xB0#8, b := 0x00#8, pc := 0xC801#16 }) [] = true /- I1 -/ ∧
    gives (start [0x04#8] [] (fun s => { s with b := 0xFF#8, f := 0x00#8, pc := 0xC800#16 }))
      (fun s => { s with f := 0xA0#8, b := 0x00#8, pc := 0xC801#16 }) [] = true /- I2 -/ ∧
    gives (start [0x3C#8] [] (fun s => { s with a := 0x0F#8, f := 0xC0#8, pc := 0xC800#16 }))
      (fun s => { s with a := 0x10#8, f := 0x20#8, pc := 0xC801#16 }) [] = true /- I3 -/ ∧
    gives (start [0x2C#8] [] (fun s => { s with h := 0x12#8, l := 0xFF#8, pc := 0xC800#16 }))
      (fun s => { s with f := 0xA0#8, l := 0x00#8, pc := 0xC801#16 }) [] = true /- I4 -/ ∧
    gives (start [0x34#8] [(0xC000#16, 0x0F#8)] (fun s => { s with h := 0xC0#8, l := 0x00#8, pc := 0xC800#16 }))
      (fun s => { s with f := 0x20#8, pc := 0xC801#16 }) [(0xC000#16, 0x10#8)] = true /- I5 -/ ∧
    gives (start [0x34#8] [(0xC000#16, 0xFF#8)]
      (fun s => { s with h := 0xC0#8, l := 0x00#8, f := 0x10#8, pc := 0xC800#16 }))
      (fun s => { s with f := 0xB0#8, pc := 0xC801#16 }) [(0xC000#16, 0x00#8)] = true /- I6 -/ := by decide

theorem test_vectors_dec_byte :
    gives (start [0x05#8] [] (fun s => { s with b := 0x01#8, pc := 0xC800#16 }))
      (fun s => { s with f := 0xC0#8, b := 0x00#8, pc := 0xC801#16 }) [] = true /- I7 -/ ∧
    gives (start [0x0D#8] [] (fun s => { s with c := 0x00#8, f := 0x00#8, pc := 0xC800#16 }))
      (fun s => { s with f := 0x60#8, c := 0xFF#8, pc := 0xC801#16 }) [] = true /- I8 -/ ∧
    gives (start [0x3D#8] [] (fun s => { s with a := 0x10#8, f := 0x10#8, pc := 0xC800#16 }))
      (fun s => { s with a := 0x0F#8, f := 0x70#8, pc := 0xC801#16 }) [] = true /- I9 -/ ∧
    gives (start [0x35#8] [(0xC000#16, 0x00#8)]
      (fun s => { s with h := 0xC0#8, l := 0x00#8, f := 0x10#8, pc := 0xC800#16 }))
      (fun s => { s with f := 0x70#8, pc := 0xC801#16 }) [(0xC000#16, 0xFF#8)] = true /- I10 -/ ∧
    gives (start [0x35#8] [(0xC000#16, 0x01#8)] (fun s => { s with h := 0xC0#8, l := 0x00#8, pc := 0xC800#16 }))
      (fun s => { s with f := 0xC0#8, pc := 0xC801#16 }) [(0xC000#16, 0x00#8)] = true /- I11 -/ := by decide

theorem test_vectors_inc_pair :
    gives (start [0x03#8] [] (fun s => { s with b := 0x00#8, c := 0xFF#8, f := 0x50#8, pc := 0xC800#16 }))
      (fun s => { s with b := 0x01#8, c := 0x00#8, pc := 0xC801#16 }) [] = true /- I12 -/ ∧
    gives (start [0x13#8] [] (fun s => { s with d := 0xFF#8, e := 0xFF#8, f := 0x00#8, pc := 0xC800#16 }))
      (fun s => { s with d := 0x00#8, e := 0x00#8, pc := 0xC801#16 }) [] = true /- I13 -/ ∧
    gives (start [0x23#8] [] (fun s => { s with h := 0x7F#8, l := 0xFF#8, pc := 0xC800#16 }))
      (fun s => { s with h := 0x80#8, l := 0x00#8, pc := 0xC801#16 }) [] = true /- I14 -/ ∧
    gives (start [0x33#8] [] (fun s => { s with sp := 0xFFFF#16, pc := 0xC800#16 }))
      (fun s => { s with sp := 0x0000#16, pc := 0xC801#16 }) [] = true /- I15 -/ := by decide

theorem test_vectors_dec_pair :
    gives (start [0x0B#8] [] (fun s => { s with b := 0x01#8, c := 0x00#8, pc := 0xC800#16 }))
      (fun s => { s with b := 0x00#8, c := 0xFF#8, pc := 0xC801#16 }) [] = true /- I16 -/ ∧
    gives (start [0x1B#8] [] (fun s => { s with d := 0x00#8, e := 0x01#8, f := 0x00#8, pc := 0xC800#16 }))
      (fun s => { s with e := 0x00#8, pc := 0xC801#16 }) [] = true /- I17 -/ ∧
    gives (start [0x2B#8] [] (fun s => { s with h := 0x00#8, l := 0x00#8, f := 0x80#8, pc := 0xC800#16 }))
      (fun s => { s with h := 0xFF#8, l := 0xFF#8, pc := 0xC801#16 }) [] = true /- I18 -/ ∧
    gives (start [0x3B#8] [] (fun s => { s with sp := 0x0000#16, pc := 0xC800#16 }))
      (fun s => { s with sp := 0xFFFF#16, pc := 0xC801#16 }) [] = true /- I19 -/ := by decide

theorem test_vectors_ld_register :
    gives (start [0x47#8] [] (fun s => { s with a := 0x42#8, pc := 0xC800#16 }))
      (fun s => { s with b := 0x42#8, pc := 0xC801#16 }) [] = true /- L1 -/ ∧
    gives (start [0x40#8] [] (fun s => { s with b := 0x55#8, pc := 0xC800#16 }))
      (fun s => { s with pc := 0xC801#16 }) [] = true /- L2 -/ ∧
    gives (start [0x65#8] [] (fun s => { s with h := 0x11#8, l := 0x22#8, pc := 0xC800#16 }))
      (fun s => { s with h := 0x22#8, pc := 0xC801#16 }) [] = true /- L3 -/ ∧
    gives (start [0x5E#8] [(0xC010#16, 0x99#8)] (fun s => { s with h := 0xC0#8, l := 0x10#8, pc := 0xC800#16 }))
      (fun s => { s with e := 0x99#8, pc := 0xC801#16 }) [] = true /- L4 -/ ∧
    gives (start [0x66#8] [(0xC000#16, 0x5C#8)] (fun s => { s with h := 0xC0#8, l := 0x00#8, pc := 0xC800#16 }))
      (fun s => { s with h := 0x5C#8, pc := 0xC801#16 }) [] = true /- L5 -/ := by decide

theorem test_vectors_ld_indirect_store :
    gives (start [0x70#8] [] (fun s => { s with b := 0x77#8, h := 0xC0#8, l := 0x20#8, pc := 0xC800#16 }))
      (fun s => { s with pc := 0xC801#16 }) [(0xC020#16, 0x77#8)] = true /- L6 -/ ∧
    gives (start [0x75#8] [] (fun s => { s with h := 0xC1#8, l := 0x23#8, pc := 0xC800#16 }))
      (fun s => { s with pc := 0xC801#16 }) [(0xC123#16, 0x23#8)] = true /- L7 -/ ∧
    gives (start [0x77#8] [] (fun s => { s with a := 0xEE#8, h := 0x00#8, l := 0x50#8, pc := 0xC800#16 }))
      (fun s => { s with pc := 0xC801#16 }) [(0x0050#16, 0xEE#8)] = true /- L8 -/ := by decide

theorem test_vectors_ld_immediate :
    gives (start [0x3E#8, 0x42#8] [] (fun s => { s with pc := 0xC800#16 }))
      (fun s => { s with a := 0x42#8, pc := 0xC802#16 }) [] = true /- L9 -/ ∧
    gives (start [0x06#8, 0x99#8] [] (fun s => { s with pc := 0xC800#16 }))
      (fun s => { s with b := 0x99#8, pc := 0xC802#16 }) [] = true /- L10 -/ ∧
    gives (start [0x2E#8, 0x00#8] [] (fun s => { s with l := 0xFF#8, f := 0xF0#8, pc := 0xC800#16 }))
      (fun s => { s with l := 0x00#8, pc := 0xC802#16 }) [] = true /- L11 -/ ∧
    gives (start [0x36#8, 0xAB#8] [] (fun s => { s with h := 0xC0#8, l := 0x00#8, pc := 0xC800#16 }))
      (fun s => { s with pc := 0xC802#16 }) [(0xC000#16, 0xAB#8)] = true /- L12 -/ := by decide

theorem test_vectors_ld_pair_immediate :
    gives (start [0x01#8, 0x34#8, 0x12#8] [] (fun s => { s with pc := 0xC800#16 }))
      (fun s => { s with b := 0x12#8, c := 0x34#8, pc := 0xC803#16 }) [] = true /- L13 -/ ∧
    gives (start [0x11#8, 0x00#8, 0xC1#8] [] (fun s => { s with pc := 0xC800#16 }))
      (fun s => { s with d := 0xC1#8, pc := 0xC803#16 }) [] = true /- L14 -/ ∧
    gives (start [0x21#8, 0x34#8, 0x12#8] [] (fun s => { s with pc := 0xC800#16 }))
      (fun s => { s with h := 0x12#8, l := 0x34#8, pc := 0xC803#16 }) [] = true /- L15 -/ ∧
    gives (start [0x31#8, 0x00#8, 0xD0#8] [] (fun s => { s with pc := 0xC800#16 }))
      (fun s => { s with sp := 0xD000#16, pc := 0xC803#16 }) [] = true /- L16 -/ := by decide

theorem test_vectors_ld_through_pair :
    gives (start [0x0A#8] [(0xC010#16, 0x77#8)] (fun s => { s with b := 0xC0#8, c := 0x10#8, pc := 0xC800#16 }))
      (fun s => { s with a := 0x77#8, pc := 0xC801#16 }) [] = true /- L17 -/ ∧
    gives (start [0x1A#8] [] (fun s => { s with d := 0xFF#8, e := 0x11#8, pc := 0xC800#16 }))
      (fun s => { s with a := 0xBF#8, pc := 0xC801#16 }) [] = true /- L18 -/ ∧
    gives (start [0x02#8] [] (fun s => { s with a := 0x9A#8, b := 0xC0#8, c := 0x10#8, pc := 0xC800#16 }))
      (fun s => { s with pc := 0xC801#16 }) [(0xC010#16, 0x9A#8)] = true /- L19 -/ ∧
    gives (start [0x12#8] [] (fun s => { s with a := 0x12#8, d := 0xC1#8, e := 0x00#8, pc := 0xC800#16 }))
      (fun s => { s with pc := 0xC801#16 }) [(0xC100#16, 0x12#8)] = true /- L20 -/ := by decide

theorem test_vectors_ld_post_increment :
    gives (start [0x2A#8] [(0x8000#16, 0x07#8)] (fun s => { s with h := 0x80#8, l := 0x00#8, pc := 0xC800#16 }))
      (fun s => { s with a := 0x07#8, l := 0x01#8, pc := 0xC801#16 }) [] = true /- L21 -/ ∧
    gives (start [0x2A#8] [(0xFFFF#16, 0x5D#8)] (fun s => { s with h := 0xFF#8, l := 0xFF#8, pc := 0xC800#16 }))
      (fun s => { s with a := 0x5D#8, h := 0x00#8, l := 0x00#8, pc := 0xC801#16 }) [] = true /- L22 -/ ∧
    gives (start [0x22#8] [] (fun s => { s with a := 0x12#8, h := 0xC0#8, l := 0xFF#8, pc := 0xC800#16 }))
      (fun s => { s with h := 0xC1#8, l := 0x00#8, pc := 0xC801#16 })
      [(0xC0FF#16, 0x12#8)] = true /- L25 -/ := by decide

theorem test_vectors_ld_post_decrement :
    gives (start [0x3A#8] [(0x8001#16, 0x09#8)] (fun s => { s with h := 0x80#8, l := 0x01#8, pc := 0xC800#16 }))
      (fun s => { s with a := 0x09#8, l := 0x00#8, pc := 0xC801#16 }) [] = true /- L23 -/ ∧
    gives (start [0x3A#8] [(0x0000#16, 0x31#8)] (fun s => { s with h := 0x00#8, l := 0x00#8, pc := 0xC800#16 }))
      (fun s => { s with a := 0x31#8, h := 0xFF#8, l := 0xFF#8, pc := 0xC801#16 }) [] = true /- L24 -/ ∧
    gives (start [0x32#8] [] (fun s => { s with a := 0x34#8, h := 0xC1#8, l := 0x00#8, pc := 0xC800#16 }))
      (fun s => { s with h := 0xC0#8, l := 0xFF#8, pc := 0xC801#16 })
      [(0xC100#16, 0x34#8)] = true /- L26 -/ := by decide

theorem test_vectors_ld_absolute :
    gives (start [0xFA#8, 0x00#8, 0xC1#8] [(0xC100#16, 0x12#8)] (fun s => { s with pc := 0xC800#16 }))
      (fun s => { s with a := 0x12#8, pc := 0xC803#16 }) [] = true /- L27 -/ ∧
    gives (start [0xEA#8, 0x34#8, 0xC2#8] [] (fun s => { s with a := 0x5A#8, pc := 0xC800#16 }))
      (fun s => { s with pc := 0xC803#16 }) [(0xC234#16, 0x5A#8)] = true /- L28 -/ := by decide

theorem test_vectors_ld_high_page :
    gives (start [0xF2#8] [] (fun s => { s with c := 0x47#8, pc := 0xC800#16 }))
      (fun s => { s with a := 0xFC#8, pc := 0xC801#16 }) [] = true /- L29 -/ ∧
    gives (start [0xF2#8] [] (fun s => { s with c := 0xFF#8, a := 0x55#8, pc := 0xC800#16 }))
      (fun s => { s with a := 0x00#8, pc := 0xC801#16 }) [] = true /- L30 -/ ∧
    gives (start [0xE2#8] [] (fun s => { s with a := 0x99#8, c := 0x80#8, pc := 0xC800#16 }))
      (fun s => { s with pc := 0xC801#16 }) [(0xFF80#16, 0x99#8)] = true /- L31 -/ := by decide

theorem test_vectors_push :
    gives (start [0xC5#8] [] (fun s => { s with b := 0x12#8, c := 0x34#8, sp := 0xD000#16, pc := 0xC800#16 }))
      (fun s => { s with sp := 0xCFFE#16, pc := 0xC801#16 })
      [(0xCFFE#16, 0x34#8), (0xCFFF#16, 0x12#8)] = true /- S1 -/ ∧
    gives (start [0xD5#8] [] (fun s => { s with d := 0xAB#8, e := 0xCD#8, pc := 0xC800#16 }))
      (fun s => { s with sp := 0xFFFC#16, pc := 0xC801#16 })
      [(0xFFFC#16, 0xCD#8), (0xFFFD#16, 0xAB#8)] = true /- S2 -/ ∧
    gives (start [0xE5#8] [] (fun s => { s with h := 0x01#8, l := 0x02#8, sp := 0x0001#16, pc := 0xC800#16 }))
      (fun s => { s with sp := 0xFFFF#16, pc := 0xC801#16 })
      [(0x0000#16, 0x01#8), (0xFFFF#16, 0x02#8)] = true /- S3 -/ ∧
    gives (start [0xF5#8] [] (fun s => { s with a := 0x12#8, f := 0x30#8, sp := 0xCFFE#16, pc := 0xC800#16 }))
      (fun s => { s with sp := 0xCFFC#16, pc := 0xC801#16 })
      [(0xCFFC#16, 0x30#8), (0xCFFD#16, 0x12#8)] = true /- S4 -/ ∧
    gives (start [0xC5#8] [] (fun s => { s with b := 0x12#8, c := 0x34#8, sp := 0x0000#16, pc := 0xC800#16 }))
      (fun s => { s with sp := 0xFFFE#16, pc := 0xC801#16 })
      [(0xFFFE#16, 0x34#8), (0xFFFF#16, 0x12#8)] = true /- S5 -/ := by decide

theorem test_vectors_pop :
    gives (start [0xD1#8] [(0xCFFE#16, 0x34#8), (0xCFFF#16, 0x12#8)]
      (fun s => { s with sp := 0xCFFE#16, pc := 0xC800#16 }))
      (fun s => { s with d := 0x12#8, e := 0x34#8, sp := 0xD000#16, pc := 0xC801#16 }) [] = true /- S6 -/ ∧
    gives (start [0xF1#8] [(0xCFFE#16, 0x3F#8), (0xCFFF#16, 0x12#8)]
      (fun s => { s with sp := 0xCFFE#16, pc := 0xC800#16 }))
      (fun s => { s with a := 0x12#8, f := 0x30#8, sp := 0xD000#16, pc := 0xC801#16 }) [] = true /- S7 -/ ∧
    gives (start [0xF1#8] [(0xCFFE#16, 0x0F#8), (0xCFFF#16, 0x00#8)]
      (fun s => { s with a := 0x11#8, f := 0xF0#8, sp := 0xCFFE#16, pc := 0xC800#16 }))
      (fun s => { s with a := 0x00#8, f := 0x00#8, sp := 0xD000#16, pc := 0xC801#16 }) [] = true /- S8 -/ ∧
    gives (start [0xE1#8] [(0x0000#16, 0xAB#8), (0xFFFF#16, 0xCD#8)]
      (fun s => { s with sp := 0xFFFF#16, pc := 0xC800#16 }))
      (fun s => { s with h := 0xAB#8, l := 0xCD#8, sp := 0x0001#16, pc := 0xC801#16 }) [] = true /- S9 -/ ∧
    gives (start [0xC1#8] [] (fun s => { s with sp := 0xFF10#16, pc := 0xC800#16 }))
      (fun s => { s with b := 0xBF#8, c := 0x80#8, sp := 0xFF12#16, pc := 0xC801#16 }) [] = true /- S10 -/ := by decide

theorem test_vectors_nop_and_pc_wrap :
    gives (start [0x00#8] [] (fun s => { s with pc := 0xC800#16 }))
      (fun s => { s with pc := 0xC801#16 }) [] = true /- T1 -/ ∧
    gives (start [0x00#8] [] (fun s => { s with pc := 0xFFFF#16 }))
      (fun s => { s with pc := 0x0000#16 }) [] = true /- T2 -/ ∧
    gives (start [0x3E#8, 0x77#8] [] (fun s => { s with pc := 0xFFFF#16 }))
      (fun s => { s with a := 0x77#8, pc := 0x0001#16 }) [] = true /- T3 -/ ∧
    gives (start [0x21#8, 0x34#8, 0x12#8] [] (fun s => { s with pc := 0xFFFF#16 }))
      (fun s => { s with h := 0x12#8, l := 0x34#8, pc := 0x0002#16 }) [] = true /- T4 -/ ∧
    gives (start [0xFA#8, 0x10#8, 0xFF#8] [] (fun s => { s with pc := 0xFFFE#16 }))
      (fun s => { s with a := 0x80#8, pc := 0x0001#16 }) [] = true /- T5 -/ := by decide

theorem test_vectors_invalid_opcode :
    faults (start [0xD3#8] []
      (fun s => { s with a := 0x42#8, pc := 0xC800#16 })) 0xD3#8 0xC800#16 0xC801#16 = true /- T6 -/ ∧
    faults (start [0xCB#8, 0x37#8] []
      (fun s => { s with pc := 0xC800#16 })) 0xCB#8 0xC800#16 0xC801#16 = true /- T7 -/ ∧
    faults (start [0x76#8] [] (fun s => { s with pc := 0xC800#16 })) 0x76#8 0xC800#16 0xC801#16 = true /- T8 -/ ∧
    faults (start [0xC3#8, 0x00#8, 0x01#8] []
      (fun s => { s with pc := 0xC800#16 })) 0xC3#8 0xC800#16 0xC801#16 = true /- T9 -/ ∧
    faults (start [0xFF#8] []
      (fun s => { s with sp := 0xD000#16, pc := 0xFFFF#16 })) 0xFF#8 0xFFFF#16 0x0000#16 = true /- T10 -/ ∧
    faults (start [0x10#8, 0x00#8] []
      (fun s => { s with pc := 0xC800#16 })) 0x10#8 0xC800#16 0xC801#16 = true /- T11 -/ := by decide

/-! ### Boot and session -/

theorem test_boot_loads_at_zero_and_keeps_the_table :
    ((boot Config.resetRegs (.bytes [0x31#8, 0xFE#8])).state.readByte 0x0001#16,
      (boot Config.resetRegs (.bytes [0x31#8, 0xFE#8])).state.readByte 0xFF40#16) = (0xFE#8, 0x91#8) := by decide
theorem test_boot_masks_F : (boot { Config.resetRegs with f := 0xBF#8 } .absent).state.f = 0xB0#8 := by decide
theorem test_boot_reports_a_failed_load :
    (boot Config.resetRegs .unreadable).loadError = some .romLoadFailure := by decide
theorem test_session_stops_at_an_address :
    runSession HostPolicy.empty (.stopAddress 0x0101#16) 2 0 State.reset =
      .stopped 1 { State.reset with pc := 0x0101#16 } := by decide
theorem test_session_fault_is_no_successful_end :
    runSession HostPolicy.empty .untilFault 2 0 { State.reset with pc := 0xFF12#16 } =
      .faulted 0 (.invalidOpcode 0xF3#8 0xFF12#16 { State.reset with pc := 0xFF13#16 }) := by decide

/-! ### Witnesses: a concrete input for the hypotheses of each statement, each clause at a boundary value -/

theorem witness_DecodeOfEncodeGivesBackTheInstruction :
    (Instr.ldSPd16 0xFFFF#16).wellFormed = true ∧ (Instr.invalid 0xFF#8).wellFormed = true := by decide

theorem witness_EncodeOfDecodeGivesBackTheBytes :
    decode [0x31#8, 0xFF#8, 0xFF#8, 0xAA#8] = .ok (.ldSPd16 0xFFFF#16, [0xAA#8]) := by decide

theorem witness_OpcodeByteSetsTheLength :
    0xFA#8 ∈ [0x01#8, 0x11#8, 0x21#8, 0x31#8, 0xEA#8, 0xFA#8] ∧
    0xFE#8 ∈ [0x06#8, 0x0E#8, 0x16#8, 0x1E#8, 0x26#8, 0x2E#8, 0x36#8, 0x3E#8, 0xC6#8, 0xCE#8, 0xD6#8, 0xDE#8, 0xE6#8,
      0xEE#8, 0xF6#8, 0xFE#8] ∧
    0xFF#8 ∉ [0x01#8, 0x11#8, 0x21#8, 0x31#8, 0xEA#8, 0xFA#8] ∧
    0xFF#8 ∉ [0x06#8, 0x0E#8, 0x16#8, 0x1E#8, 0x26#8, 0x2E#8, 0x36#8, 0x3E#8, 0xC6#8, 0xCE#8, 0xD6#8, 0xDE#8, 0xE6#8,
      0xEE#8, 0xF6#8, 0xFE#8] := by decide

theorem witness_InvalidBytesAreTheListedSixtyFour :
    decode [0xFF#8, 0x01#8] = .ok (.invalid 0xFF#8, [0x01#8]) ∧ 0x00#8 ∉ invalidOpcodes := by decide

theorem witness_BytesTheSourceShowsRunAsShown :
    ((start [0x3E#8, 0x42#8] [] (fun s => { s with pc := 0xFFFF#16 })).readByte 0xFFFF#16 = 0x3E#8 ∧
      (start [0x3E#8, 0x42#8] [] (fun s => { s with pc := 0xFFFF#16 })).readByte 0x0000#16 = 0x42#8) ∧
    ((start [0x06#8, 0x99#8] [] id).readByte 0x0100#16 = 0x06#8 ∧
      (start [0x06#8, 0x99#8] [] id).readByte 0x0101#16 = 0x99#8) ∧
    State.reset.readByte State.reset.pc = 0x00#8 := by decide

theorem witness_StepRunsTheDecodedInstruction :
    decode [State.reset.readByte 0xFF11#16, State.reset.readByte 0xFF12#16, State.reset.readByte 0xFF13#16] =
      .ok (.cpAA, [0xF3#8, 0x00#8]) := by decide

theorem witness_AdmittedBytesStepAndInvalidBytesFault :
    State.reset.readByte State.reset.pc ∉ invalidOpcodes ∧
    (start [0xFF#8] [] (fun s => { s with pc := 0xFFFF#16 })).readByte 0xFFFF#16 ∈ invalidOpcodes := by decide

/-- A run of one step from reset, for the statements about any completing step. -/
theorem witness_LowNibbleOfFIsAlwaysZero :
    State.reset.f &&& 0x0F#8 = 0#8 ∧ step State.reset = .next { State.reset with pc := 0x0101#16 } :=
  ⟨by decide, by rfl⟩

theorem witness_EveryStepKeepsMemoryCanonical :
    (start [0x36#8, 0xAB#8] [] (fun s => { s with h := 0xC0#8 })).mem.wf = true ∧
    gives (start [0x36#8, 0xAB#8] [] (fun s => { s with h := 0xC0#8 })) (fun s => { s with pc := 0x0102#16 })
      [(0xC000#16, 0xAB#8)] = true := by decide

theorem witness_IncrementAndDecrementOfAPairTouchNoFlag : RegPair.bc ≠ .sp := by decide

theorem witness_PushInstructionsStoreThePair : ({ State.reset with f := 0xF0#8 }).f &&& 0x0F#8 = 0#8 := by decide

theorem witness_PushThenPopCopiesAPair : Pair.bc ≠ .af ∧ Pair.af ≠ .hl := by decide

theorem witness_OnlyAluAndPopAFChangeF :
    (∃ t, exec .xorAA State.reset = .next t ∧ t.f ≠ State.reset.f) ∧
    (∃ t, exec .incB { State.reset with b := 0xFF#8 } = .next t ∧ t.f ≠ State.reset.f) ∧
    (∃ t, exec .decB State.reset = .next t ∧ t.f ≠ State.reset.f) ∧
    (∃ t, exec .popAF { State.reset with sp := 0xFF10#16 } = .next t ∧ t.f ≠ State.reset.f) :=
  ⟨⟨_, rfl, by decide⟩, ⟨_, rfl, by decide⟩, ⟨_, rfl, by decide⟩, ⟨_, rfl, by decide⟩⟩

theorem witness_OnlyStackInstructionsChangeSP :
    (∃ t, exec .pushBC State.reset = .next t ∧ t.sp ≠ State.reset.sp) ∧
    (∃ t, exec .popBC State.reset = .next t ∧ t.sp ≠ State.reset.sp) ∧
    (∃ t, exec .incSP State.reset = .next t ∧ t.sp ≠ State.reset.sp) ∧
    (∃ t, exec .decSP State.reset = .next t ∧ t.sp ≠ State.reset.sp) ∧
    (∃ t, exec (.ldSPd16 0x0000#16) State.reset = .next t ∧ t.sp ≠ State.reset.sp) :=
  ⟨⟨_, rfl, by decide⟩, ⟨_, rfl, by decide⟩, ⟨_, rfl, by decide⟩, ⟨_, rfl, by decide⟩, ⟨_, rfl, by decide⟩⟩

theorem witness_NoInstructionTransfersControl : ∃ t, exec .incSP State.reset = .next t := ⟨_, rfl⟩

theorem witness_MemoryAfterAStepIsTheReplayOfItsBusWrites :
    ∃ t, step (start [0xC5#8] [] (fun s => { s with b := 0x12#8 })) = .next t ∧
      t.readByte 0xFFFD#16 ≠ (start [0xC5#8] [] (fun s => { s with b := 0x12#8 })).readByte 0xFFFD#16 :=
  ⟨_, rfl, by decide⟩

theorem witness_StoreIsSeenByTheNextFetch :
    (start [0x36#8, 0x3C#8] [] (fun s => { s with h := 0x01#8, l := 0x02#8 })).readByte 0x0100#16 = 0x36#8 ∧
    (start [0x36#8, 0x3C#8] [] (fun s => { s with h := 0x01#8, l := 0x02#8 })).pair .hl = 0x0100#16 + 2#16 := by decide

theorem witness_PostBootTableIsAllThatIsNotZero :
    (boot { Config.resetRegs with a := 0x11#8, f := 0xF0#8 } .absent).state.readByte 0xFF10#16 ≠ 0#8 ∧
    (boot Config.resetRegs .absent).state.readByte 0xFF49#16 ≠ 0#8 := by decide

theorem witness_SessionOfNStepsIsNSteps :
    runSession HostPolicy.empty (.stepCount 1) 1 0 State.reset = .stopped 1 { State.reset with pc := 0x0101#16 } := by
  decide

end Sys2Proof.Tests
end

section
/-! The state's own rules: what a pair view and a flag return after a write, what each form of an instruction can do to F
and to SP, and what boot leaves in memory. They are used below to settle the statements of 10_state.md. -/

namespace Sys2Proof.Machine

/-! ### Pair views (10_state.md R22, R23) -/

/-- Masking the low nibble of the low byte masks the low nibble of the word. -/
theorem joinBytes_and_F0 (hi lo : Byte) : joinBytes hi (lo &&& 0xF0#8) = joinBytes hi lo &&& 0xFFF0#16 := by
  have hmask : (0xFFF0#16 : Word) = 0xFF#8 ++ 0xF0#8 := by decide
  have hhi : hi &&& 0xFF#8 = hi := BitVec.and_allOnes
  rw [joinBytes, joinBytes, hmask, BitVec.and_append, hhi]

/-- A pair read after the same pair was written. -/
theorem State.pair_setPair_same (s : State) (q : Pair) (v : Word) :
    (s.setPair q v).pair q = if q = .af then v &&& 0xFFF0#16 else v := by
  cases q with
  | af => exact (joinBytes_and_F0 _ _).trans (congrArg (· &&& 0xFFF0#16) (joinBytes_high_low v))
  | bc => exact joinBytes_high_low v
  | de => exact joinBytes_high_low v
  | hl => exact joinBytes_high_low v

/-! ### Flags (10_state.md R26, R27) -/

/-- The mask of a flag has that flag's bit alone. -/
theorem flagMask_getLsbD (fl x : Flag) : (1#8 <<< fl.bit).getLsbD x.bit = decide (x = fl) := by
  cases fl <;> cases x <;> rfl

theorem Flag.bit_lt (fl : Flag) : fl.bit < 8 := by cases fl <;> decide

/-- A flag read after a flag write. -/
theorem State.getFlag_setFlag (s : State) (fl x : Flag) (b : Bool) :
    (s.setFlag fl b).getFlag x = if x = fl then b else s.getFlag x := by
  rw [State.setFlag, State.getFlag_setF]
  cases b with
  | true =>
    rw [if_pos rfl, BitVec.getLsbD_or, flagMask_getLsbD]
    by_cases hx : x = fl <;> simp [hx, State.getFlag]
  | false =>
    rw [if_neg Bool.false_ne_true, BitVec.getLsbD_and, BitVec.getLsbD_not, flagMask_getLsbD]
    by_cases hx : x = fl <;> simp [hx, State.getFlag, Flag.bit_lt]

@[simp] theorem State.setFlag_fClean (s : State) (fl : Flag) (b : Bool) : (s.setFlag fl b).fClean = true :=
  State.setF_fClean _ _

/-! ### What an instruction can do to F and to SP -/

theorem State.fClean_iff {s : State} : s.fClean = true ↔ s.f &&& 0x0F#8 = 0#8 := beq_iff_eq

@[simp] theorem State.loadAcc_f (s : State) (m : AccMode) : (s.loadAcc m).f = s.f := by simp [State.loadAcc]
@[simp] theorem State.loadAcc_sp (s : State) (m : AccMode) : (s.loadAcc m).sp = s.sp := by simp [State.loadAcc]
@[simp] theorem State.storeAcc_f (s : State) (m : AccMode) : (s.storeAcc m).f = s.f := by simp [State.storeAcc]
@[simp] theorem State.storeAcc_sp (s : State) (m : AccMode) : (s.storeAcc m).sp = s.sp := by simp [State.storeAcc]
@[simp] theorem State.modify8_sp (s : State) (prim : Byte → Byte → AluOut) (dst : Operand8) :
    (s.modify8 prim dst).sp = s.sp := by simp [State.modify8]
@[simp] theorem State.modify8_fClean (s : State) (prim : Byte → Byte → AluOut) (dst : Operand8) :
    (s.modify8 prim dst).fClean = true := State.setF_fClean _ _
@[simp] theorem State.pushPair_f (s : State) (q : Pair) : (s.pushPair q).f = s.f := by simp [State.pushPair_eq]

theorem State.setRegPair_sp_of_ne {s : State} {p : RegPair} (hp : p ≠ .sp) (v : Word) :
    (s.setRegPair p v).sp = s.sp := by
  cases p with
  | sp => exact absurd rfl hp
  | bc | de | hl => rfl

/-- POP AF takes F from the byte at SP, masked; the other pops keep F (43_stack.md R231, R235). -/
theorem State.popPair_f (s : State) (q : Pair) :
    (s.popPair q).f = if q = .af then s.readByte s.sp &&& 0xF0#8 else s.f := by
  rw [State.popPair_eq, State.setPair_f, lowByte_joinBytes]

@[simp] theorem aluEffect_sp (o : AluOp) (s : State) (b : Byte) : (aluEffect o s b).sp = s.sp := by cases o <;> rfl

@[simp] theorem aluEffect_fClean (o : AluOp) (s : State) (b : Byte) : (aluEffect o s b).fClean = true := by
  cases o with
  | cp => exact State.setF_fClean _ _
  | _ => exact State.setAcc_fClean _ _

/-- An instruction that answers a next state does what its form does. -/
theorem exec_next_form {i : Instr} {s t : State} (h : exec i s = .next t) :
    ∃ fm : Form, i = fm.instr ∧ Form.effect fm s = some t := ⟨i.form, i.form_instr.symm, exec_next_effect h⟩

/-- What an instruction can do to F (10_state.md R28): keep it, or, if it is an ALU operation, an 8-bit INC or DEC, or POP
AF, write a byte whose low nibble is zero. -/
theorem exec_f_cases {i : Instr} {s t : State} (h : exec i s = .next t) :
    t.f = s.f ∨ t.fClean = true ∧
      ((∃ o src, i = Instr.alu o src) ∨ (∃ dst, i = Instr.inc8 dst) ∨ (∃ dst, i = Instr.dec8 dst) ∨ i = .popAF) := by
  obtain ⟨fm, rfl, heff⟩ := exec_next_form h
  cases fm with
  | invalid op => cases heff
  | alu o src => cases heff; exact .inr ⟨aluEffect_fClean _ _ _, .inl ⟨o, src, rfl⟩⟩
  | inc8 dst => cases heff; exact .inr ⟨State.modify8_fClean _ _ _, .inr (.inl ⟨dst, rfl⟩)⟩
  | dec8 dst => cases heff; exact .inr ⟨State.modify8_fClean _ _ _, .inr (.inr (.inl ⟨dst, rfl⟩))⟩
  | pop q =>
    cases heff
    by_cases hq : q = .af
    · subst hq; exact .inr ⟨State.setF_fClean _ _, .inr (.inr (.inr rfl))⟩
    · exact .inl ((State.popPair_f s q).trans (if_neg hq))
  | _ => cases heff; exact .inl (by simp)

/-- What an instruction can do to SP (10_state.md R24): keep it, or be PUSH, POP, INC SP, DEC SP or LD SP,d16. -/
theorem exec_sp_cases {i : Instr} {s t : State} (h : exec i s = .next t) :
    t.sp = s.sp ∨ (∃ q, i = Instr.push q) ∨ (∃ q, i = Instr.pop q) ∨ i = .incSP ∨ i = .decSP ∨ ∃ n, i = .ldSPd16 n := by
  obtain ⟨fm, rfl, heff⟩ := exec_next_form h
  cases fm with
  | invalid op => cases heff
  | push q => exact .inr (.inl ⟨q, rfl⟩)
  | pop q => exact .inr (.inr (.inl ⟨q, rfl⟩))
  | inc16 p =>
    cases heff
    by_cases hp : p = .sp
    · subst hp; exact .inr (.inr (.inr (.inl rfl)))
    · exact .inl (State.setRegPair_sp_of_ne hp _)
  | dec16 p =>
    cases heff
    by_cases hp : p = .sp
    · subst hp; exact .inr (.inr (.inr (.inr (.inl rfl))))
    · exact .inl (State.setRegPair_sp_of_ne hp _)
  | ldPairImm p n =>
    cases heff
    by_cases hp : p = .sp
    · subst hp; exact .inr (.inr (.inr (.inr (.inr ⟨n, rfl⟩))))
    · exact .inl (State.setRegPair_sp_of_ne hp _)
  | _ => cases heff; exact .inl (by simp)

/-- A step keeps the low nibble of F zero. -/
theorem step_fClean {s t : State} (hclean : s.fClean = true) (h : step s = .next t) : t.fClean = true := by
  have hfetch : (fetchInstr s).2.f = s.f := by rw [fetchInstr_frame]
  obtain hkept | ⟨hwritten, _⟩ := exec_f_cases (step_eq s ▸ h)
  · exact (State.fClean_congr (hkept.trans hfetch)).trans hclean
  · exact hwritten

/-! ### What boot leaves (70_reset_and_hazards.md R280, R282; 20_memory.md R54, R55) -/

theorem boot_fClean (r : Config.ResetRegs) (source : ImageSource) : (boot r source).state.fClean = true :=
  State.fClean_iff.mpr (and_F0_and_0F r.f)

theorem Memory.loadSource_wf {m : Memory} (source : ImageSource) (h : m.wf = true) :
    (m.loadSource source).1.wf = true := by
  cases source with
  | bytes image =>
    have hlen : (image.take Config.imageLimit).length ≤ Config.imageLimit := List.length_take_le _ _
    have hlimit : Config.imageLimit ≤ Config.memorySize := by decide
    exact Memory.copyFrom_wf 0 _ (by omega) h
  | absent => exact h
  | unreadable => exact h

theorem boot_wf (r : Config.ResetRegs) (source : ImageSource) : (boot r source).state.mem.wf = true := by
  rw [boot_mem]
  exact Memory.writePairs_wf _ postBoot_in_space (Memory.loadSource_wf source Memory.zeroFilled_wf)

theorem boot_inv (r : Config.ResetRegs) (source : ImageSource) : (boot r source).state.inv = true := by
  rw [State.inv, boot_fClean, boot_wf, Bool.and_self]

/-- The reset state is a state boot makes, so it has every property all of those have. -/
theorem reset_of_forall_boot {P : State → Prop} (h : ∀ r source, P (boot r source).state) : P State.reset := by
  have hP := h Config.resetRegs .absent
  rwa [boot_absent_eq_reset] at hP

/-- Looking up in a list whose bytes were all replaced by one. -/
theorem lookup_map_const (ps : List (Nat × Byte)) (v : Byte) (x : Nat) :
    (ps.map fun p => (p.1, v)).lookup x = (ps.lookup x).map fun _ => v := by
  induction ps with
  | nil => rfl
  | cons p rest ih =>
    rw [List.map_cons, List.lookup_cons, List.lookup_cons, ih]
    cases x == p.1 <;> rfl

/-- After the zero fill every byte is 0. -/
theorem Memory.read_zeroFilled (x : Nat) : Memory.read Memory.zeroFilled x = 0x00#8 := by
  have hkeys : ((Config.postBoot.map fun p => (p.1, 0x00#8)).map Prod.fst).Nodup := by
    rw [List.map_map]; exact postBoot_keys_nodup
  rw [Memory.zeroFilled, Memory.read_writePairs _ _ hkeys, lookup_map_const]
  cases h : Config.postBoot.lookup x with
  | none => simp [Memory.read, Memory.unlisted, h]
  | some v => rfl

/-- The post-boot table lies above the addresses an image is loaded to. -/
theorem postBoot_lookup_below {x : Nat} (hx : x < Config.imageLimit) : Config.postBoot.lookup x = none := by
  have habove : ∀ p ∈ Config.postBoot, Config.imageLimit ≤ p.1 := by decide
  rw [List.lookup_eq_none_iff]
  intro p hp
  have hp' := habove p hp
  exact bne_iff_ne.mpr (by omega)

/-- A byte of memory after boot: the post-boot table's, or what the image source left over the zero fill. -/
theorem boot_readByte (r : Config.ResetRegs) (source : ImageSource) (x : Word) :
    (boot r source).state.readByte x = (Config.postBoot.lookup x.toNat).getD
      (Memory.read (Memory.loadSource Memory.zeroFilled source).1 x.toNat) := by
  rw [State.readByte, boot_mem, Memory.read_writePairs _ _ postBoot_keys_nodup]

theorem reset_readByte (x : Word) : State.reset.readByte x = (Config.postBoot.lookup x.toNat).getD 0x00#8 := rfl

/-- A byte after an image was copied over the zero fill. -/
theorem Memory.read_zeroFilled_loadImage (image : List Byte) (x : Nat) :
    Memory.read (Memory.zeroFilled.loadImage image) x =
      if x < Config.imageLimit then (image[x]?).getD 0x00#8 else 0x00#8 := by
  rw [Memory.loadImage, Memory.read_copyFrom, if_pos (Nat.zero_le x), Nat.sub_zero, Memory.read_zeroFilled,
    List.getElem?_take]
  split <;> rfl

/-- Memory after boot with an image: the image's bytes below its limit, the reset contents from there on. -/
theorem boot_bytes_readByte (r : Config.ResetRegs) (image : List Byte) (x : Word) :
    (boot r (.bytes image)).state.readByte x =
      if x.toNat < Config.imageLimit then (image[x.toNat]?).getD 0x00#8 else State.reset.readByte x := by
  rw [boot_readByte, reset_readByte, Memory.loadSource, Memory.read_zeroFilled_loadImage]
  by_cases hx : x.toNat < Config.imageLimit
  · rw [if_pos hx, if_pos hx, postBoot_lookup_below hx, Option.getD_none]
  · rw [if_neg hx, if_neg hx]

/-- Without an image boot leaves no byte that differs from its reset contents. -/
theorem boot_absent_eq (r : Config.ResetRegs) : boot r .absent = ⟨State.ofBoot r [], none⟩ := by
  have hmem : Memory.writePairs Memory.zeroFilled Config.postBoot = [] :=
    congrArg (fun report => report.state.mem) boot_absent_eq_reset
  rw [boot, Memory.loadSource, hmem]

end Sys2Proof.Machine
end

section
/-! The statements of 10_state.md, settled. -/

namespace Sys2Proof.Machine

/-- Settles O12: F is masked at boot and at every write of it, and a step that does not write F keeps it. -/
theorem lowNibbleOfFIsAlwaysZero : Obligations.LowNibbleOfFIsAlwaysZero := by
  have hboot : ∀ r source, (boot r source).state.f &&& 0x0F#8 = 0#8 := fun r source =>
    State.fClean_iff.mp (boot_fClean r source)
  refine ⟨reset_of_forall_boot (P := fun s => s.f &&& 0x0F#8 = 0#8) hboot, hboot, ?_, State.setAcc_f, ?_, ?_, ?_⟩
  · intro s t hclean h
    exact State.fClean_iff.mp (step_fClean (State.fClean_iff.mpr hclean) h)
  · intro s fl b
    exact State.fClean_iff.mp (State.setFlag_fClean s fl b)
  · intro s v
    rw [State.setPair_f, if_pos rfl, lowByte_eq]
  · intro s
    exact ⟨s.popPair .af, exec_pop .af s, State.popPair_f s .af⟩

/-- Settles O14: boot masks F and writes memory inside the address space only, and reset is one of boot's states. -/
theorem bootMeetsTheInvariant : Obligations.BootMeetsTheInvariant :=
  ⟨reset_of_forall_boot (P := fun s => s.inv = true) boot_inv, boot_inv⟩

/-- Settles O16: each pair is stored as its two bytes, and joining them again gives the word back, masked for AF. -/
theorem pairWriteThenPairRead : Obligations.PairWriteThenPairRead := by
  intro s v
  rw [← highByte_eq, ← lowByte_eq]
  exact ⟨⟨rfl, State.pair_setPair_same s .bc v⟩, ⟨rfl, State.pair_setPair_same s .de v⟩,
    ⟨rfl, State.pair_setPair_same s .hl v⟩, ⟨rfl, State.pair_setPair_same s .af v⟩⟩

/-- Settles O17, from what a flag read returns after a flag write. -/
theorem setFlagDisturbsNoOtherFlag : Obligations.SetFlagDisturbsNoOtherFlag := by
  intro s fl b
  exact ⟨fun x => State.getFlag_setFlag s fl x b, State.fClean_iff.mp (State.setFlag_fClean s fl b), rfl,
    rfl, rfl, rfl, rfl⟩

/-- Settles O50, by the cases of what an instruction can do to F. -/
theorem onlyAluAndPopAFChangeF : Obligations.OnlyAluAndPopAFChangeF := by
  intro i s t h hchanged
  obtain hkept | ⟨_, hwriter⟩ := exec_f_cases h
  · exact absurd hkept hchanged
  · exact hwriter

/-- Settles O51, by the cases of what an instruction can do to SP. -/
theorem onlyStackInstructionsChangeSP : Obligations.OnlyStackInstructionsChangeSP := by
  intro i s t h hchanged
  obtain hkept | hwriter := exec_sp_cases h
  · exact absurd hkept hchanged
  · exact hwriter

/-- Settles O57: the registers are those of State.ofBoot, and memory is read through the image and the post-boot table. -/
theorem bootMakesTheStatedState : Obligations.BootMakesTheStatedState := by
  intro r image
  exact ⟨⟨rfl, rfl, rfl, rfl, rfl, rfl, rfl, rfl, rfl, rfl⟩, boot_bytes_readByte r image, rfl, boot_absent_eq r, rfl⟩

/-- Settles O15: a pair joins its two registers, and a write to one of them is what the pair then joins. -/
theorem pairsAreViewsOfTheirRegisters : Obligations.PairsAreViewsOfTheirRegisters := by
  intro s
  simp only [← joinBytes_eq_or]
  exact ⟨⟨rfl, rfl, rfl, rfl⟩, fun v => ⟨rfl, rfl, rfl, rfl, rfl, rfl, rfl, rfl⟩⟩

end Sys2Proof.Machine
end

section
/-! What an instruction does to memory: the bus accesses of each form, that replaying their writes gives the memory of
the next state, and that a replay keeps memory canonical. They are used below to settle the statements of
20_memory.md. -/

namespace Sys2Proof.Machine

/-! ### Replaying a list of bus accesses -/

/-- Replaying accesses reads nothing of the registers. -/
theorem State.afterAccesses_mem_congr {s t : State} (h : s.mem = t.mem) (l : List BusAccess) :
    (s.afterAccesses l).mem = (t.afterAccesses l).mem := by
  induction l generalizing s t with
  | nil => exact h
  | cons acc rest ih =>
    cases acc with
    | read addr => exact ih h
    | write addr v => exact ih (by rw [State.writeByte, State.writeByte, h])

theorem State.afterAccesses_append (s : State) (l l' : List BusAccess) :
    s.afterAccesses (l ++ l') = (s.afterAccesses l).afterAccesses l' := by
  induction l generalizing s with
  | nil => rfl
  | cons acc rest ih =>
    cases acc with
    | read addr => exact ih s
    | write addr v => exact ih (s.writeByte addr v)

theorem State.afterAccesses_map_read {α : Type} (s : State) (f : α → Word) (l : List α) :
    s.afterAccesses (l.map fun k => .read (f k)) = s := by
  induction l with
  | nil => rfl
  | cons k rest ih => exact ih

/-- A byte that no access writes is kept. -/
theorem State.afterAccesses_readByte_of_not_written (s : State) {x : Word} {l : List BusAccess}
    (h : ∀ acc ∈ l, acc.writesTo x = false) : (s.afterAccesses l).readByte x = s.readByte x := by
  induction l generalizing s with
  | nil => rfl
  | cons acc rest ih =>
    obtain ⟨hacc, hrest⟩ := List.forall_mem_cons.mp h
    cases acc with
    | read addr => exact ih s hrest
    | write addr v =>
      have hx : x ≠ addr := (beq_eq_false_iff_ne.mp hacc).symm
      exact (ih _ hrest).trans (State.readByte_writeByte_other s v hx)

/-- Every bus write is inside the address space, so a replay keeps the canonical form. -/
theorem State.afterAccesses_wf {s : State} (l : List BusAccess) (h : s.mem.wf = true) :
    (s.afterAccesses l).mem.wf = true := by
  induction l generalizing s with
  | nil => exact h
  | cons acc rest ih =>
    cases acc with
    | read addr => exact ih h
    | write addr v => exact ih (State.writeByte_wf addr v h)

/-! ### The data accesses of each form (20_memory.md R59; 40_step_cycle.md R119) -/

/-- The data accesses of a form, in order. -/
def Form.accesses (fm : Form) (s : State) : List BusAccess :=
  match fm with
  | .alu _ .indHL | .ldRegInd _ => [.read s.hl]
  | .inc8 .indHL => [.read s.hl, .write s.hl (s.readByte s.hl + 1#8)]
  | .dec8 .indHL => [.read s.hl, .write s.hl (s.readByte s.hl - 1#8)]
  | .ldIndReg src => [.write s.hl (s.reg8 src)]
  | .ldIndImm n => [.write s.hl n]
  | .loadAcc m => [.read (s.effAddr m)]
  | .storeAcc m => [.write (s.effAddr m) s.a]
  | .push q => [.write (s.sp - 1#16) (highByte (s.pair q)), .write (s.sp - 2#16) (lowByte (s.pair q))]
  | .pop _ => [.read s.sp, .read (s.sp + 1#16)]
  | .nop | .invalid _ | .alu _ (.reg _) | .alu _ (.imm _) | .inc8 (.reg _) | .dec8 (.reg _) | .inc16 _ | .dec16 _
  | .ldRegReg _ _ | .ldRegImm _ _ | .ldPairImm _ _ => []

/-- The data accesses of an instruction are those of its form. -/
theorem dataAccesses_instr (fm : Form) (s : State) : dataAccesses fm.instr s = Form.accesses fm s := by
  cases fm with
  | nop | invalid | ldIndImm => rfl
  | alu o src =>
    cases src with
    | reg r => cases o <;> cases r <;> rfl
    | indHL | imm => cases o <;> rfl
  | inc8 dst | dec8 dst =>
    cases dst with
    | reg r => cases r <;> rfl
    | indHL => rfl
  | inc16 p | dec16 p | ldPairImm p => cases p <;> rfl
  | ldRegReg dst src => cases dst <;> cases src <;> rfl
  | ldRegInd r | ldIndReg r | ldRegImm r => cases r <;> rfl
  | loadAcc m | storeAcc m => cases m <;> rfl
  | push q => cases q <;> simp [Form.instr, Instr.push, dataAccesses, Form.accesses, State.pair]
  | pop q => cases q <;> rfl

/-! ### Memory after an instruction and after a step -/

@[simp] theorem aluEffect_mem (o : AluOp) (s : State) (b : Byte) : (aluEffect o s b).mem = s.mem := by cases o <;> rfl
@[simp] theorem State.modify8_reg_mem (s : State) (prim : Byte → Byte → AluOut) (r : Reg8) :
    (s.modify8 prim (.reg r)).mem = s.mem := by simp [State.modify8, State.setOperand8]
@[simp] theorem State.loadAcc_mem (s : State) (m : AccMode) : (s.loadAcc m).mem = s.mem := by simp [State.loadAcc]
@[simp] theorem State.storeAcc_mem (s : State) (m : AccMode) :
    (s.storeAcc m).mem = (s.writeByte (s.effAddr m) s.a).mem := by simp [State.storeAcc]
@[simp] theorem State.popPair_mem (s : State) (q : Pair) : (s.popPair q).mem = s.mem := by simp [State.popPair_eq]

/-- The memory a form leaves is the replay of its data accesses. -/
theorem Form.effect_mem {fm : Form} {s t : State} (h : Form.effect fm s = some t) :
    t.mem = (s.afterAccesses (Form.accesses fm s)).mem := by
  cases fm with
  | invalid op => cases h
  | alu o src => cases h; cases src <;> exact aluEffect_mem _ _ _
  | inc8 dst | dec8 dst =>
    cases h
    cases dst with
    | reg r => exact State.modify8_reg_mem _ _ _
    | indHL => rfl
  | push q => cases h; rw [State.pushPair_eq]; rfl
  | _ => cases h; simp [Form.accesses, State.afterAccesses]

theorem exec_mem {i : Instr} {s t : State} (h : exec i s = .next t) :
    t.mem = (s.afterAccesses (dataAccesses i s)).mem := by
  obtain ⟨fm, rfl, heff⟩ := exec_next_form h
  rw [dataAccesses_instr]
  exact Form.effect_mem heff

/-- The memory a step leaves is the replay of its bus accesses: the fetches read, the data accesses are the
instruction's. -/
theorem step_mem {s t : State} (h : step s = .next t) : t.mem = (s.afterAccesses (stepAccesses s)).mem := by
  have hfetch : s.afterAccesses (fetchAccesses s) = s := State.afterAccesses_map_read s _ _
  have hmem : (fetchInstr s).2.mem = s.mem := by rw [fetchInstr_frame]
  rw [stepAccesses, State.afterAccesses_append, hfetch, exec_mem (step_eq s ▸ h)]
  exact State.afterAccesses_mem_congr hmem _

/-! ### The high page (20_memory.md R68) -/

/-- The high-page address is the byte 0xFF beside C. -/
theorem State.effAddr_highC (s : State) : s.effAddr .highC = joinBytes 0xFF#8 s.c := (joinBytes_eq_or 0xFF#8 s.c).symm

end Sys2Proof.Machine
end

section
/-! The statements of 20_memory.md, settled. -/

namespace Sys2Proof.Machine

/-- Settles O13: the memory after a step is a replay of bus writes over a canonical memory. -/
theorem everyStepKeepsMemoryCanonical : Obligations.EveryStepKeepsMemoryCanonical := by
  intro s t hwf h
  rw [step_mem h]
  exact State.afterAccesses_wf _ hwf

/-- Settles O53: memory is the replay of the bus accesses, and a replay keeps a byte that none of them writes. -/
theorem memoryAfterAStepIsTheReplayOfItsBusWrites : Obligations.MemoryAfterAStepIsTheReplayOfItsBusWrites := by
  intro s t h x
  have hread : t.readByte x = (s.afterAccesses (stepAccesses s)).readByte x := by
    rw [State.readByte, State.readByte, step_mem h]
  refine ⟨hread, fun hchanged => ?_⟩
  by_contra hnone
  have hkept : ∀ acc ∈ stepAccesses s, acc.writesTo x = false := fun acc hacc =>
    Bool.eq_false_iff.mpr fun hwrites => hnone ⟨acc, hacc, hwrites⟩
  exact hchanged (hread.trans (State.afterAccesses_readByte_of_not_written s hkept))

/-- Settles O18, from what a byte read returns after a byte write. -/
theorem byteWriteChangesExactlyThatByte : Obligations.ByteWriteChangesExactlyThatByte := fun s addr v =>
  ⟨State.readByte_writeByte s addr v, rfl⟩

/-- Settles O55: the step is LD (HL),d8 with its operand stored at HL, which is where PC then points. -/
theorem storeIsSeenByTheNextFetch : Obligations.StoreIsSeenByTheNextFetch := by
  intro s hop hhl
  have hslot : lookup (s.readByte s.pc) = .opD8 Instr.ldIndImm := by rw [hop]; rfl
  have hstep : step s =
      .next (({ s with pc := s.pc + 2#16 } : State).writeByte (s.pc + 2#16) (s.readByte (s.pc + 1#16))) := by
    rw [step_eq, fetchInstr_of_opD8 hslot, exec_ldIndImm]
    exact congrArg (fun addr => Host.Outcome.next (State.writeByte _ addr _)) hhl
  exact ⟨_, hstep, rfl, State.readByte_writeByte_same _ _ _⟩

/-- Settles O58: the bus reset's memory is the zero fill that boot begins with. -/
theorem busResetZeroFillsMemory : Obligations.BusResetZeroFillsMemory :=
  ⟨fun _ x => Memory.read_zeroFilled x.toNat, fun _ => rfl, fun _ r source => boot_mem r source⟩

/-- Settles O59: the copy reads as the truncated image where that has a byte. -/
theorem imageLoadCopiesAtMostTheLimit : Obligations.ImageLoadCopiesAtMostTheLimit := by
  refine ⟨fun m image x => ?_, fun _ => rfl⟩
  rw [Memory.loadImage, Memory.read_copyFrom, if_pos (Nat.zero_le x), Nat.sub_zero, List.getElem?_take, Config.imageLimit]
  split <;> rfl

/-- Settles O19: the address has 0xFF as its high byte and C as its low byte. -/
theorem highPageAddressNeverWraps : Obligations.HighPageAddressNeverWraps := by
  intro s
  have hnat : (s.effAddr .highC).toNat = 0xFF00 + s.c.toNat := by
    rw [State.effAddr_highC, joinBytes_toNat]; rfl
  have hc : s.c.toNat < 256 := s.c.isLt
  exact ⟨rfl, hnat, by omega, by omega⟩

/-- Settles O54, form by form. -/
theorem dataAccessesOfEachKind : Obligations.DataAccessesOfEachKind := by
  intro s
  have hform : ∀ fm : Form, dataAccesses fm.instr s = Form.accesses fm s := fun fm => dataAccesses_instr fm s
  refine ⟨fun q => ?_, fun q => hform (.pop q), hform (.inc8 .indHL), hform (.dec8 .indHL), fun o => hform (.alu o .indHL),
    fun o r => hform (.alu o (.reg r)), fun o n => hform (.alu o (.imm n)), fun m => hform (.loadAcc m),
    fun m => hform (.storeAcc m), fun dst => hform (.ldRegInd dst), fun src => hform (.ldIndReg src),
    fun n => hform (.ldIndImm n), hform .nop, fun op => hform (.invalid op), fun dst src => hform (.ldRegReg dst src),
    fun dst n => hform (.ldRegImm dst n), fun p n => hform (.ldPairImm p n),
    fun r => ⟨hform (.inc8 (.reg r)), hform (.dec8 (.reg r))⟩, fun p => ⟨hform (.inc16 p), hform (.dec16 p)⟩⟩
  rw [← highByte_eq, ← lowByte_eq]
  exact hform (.push q)

end Sys2Proof.Machine
end

section
/-! The decoder's laws: which slot a byte has, read off its length or the list of invalid bytes; what a list of bytes
that decodes looks like; the two round trips with the encoder; and what a step does at a byte with a known slot. They
are used below to settle the statements of 30_encoding.md. -/

namespace Sys2Proof

open Machine

/-! ### The slot of a byte -/

theorem Slot.meets_of_lookup {op : Byte} {slot : Slot} (h : lookup op = slot) : slot.Meets op := h ▸ lookup_meets op

theorem lookup_opD16_of_length {op : Byte} (hlen : opcodeLength op = 3) : ∃ k, lookup op = .opD16 k := by
  have hmeets := lookup_meets op
  cases h : lookup op with
  | opD16 k => exact ⟨k, rfl⟩
  | op i | opD8 k | invalid => simp [h, Slot.Meets, hlen] at hmeets

theorem lookup_opD8_of_length {op : Byte} (hlen : opcodeLength op = 2) : ∃ k, lookup op = .opD8 k := by
  have hmeets := lookup_meets op
  cases h : lookup op with
  | opD8 k => exact ⟨k, rfl⟩
  | op i | opD16 k | invalid => simp [h, Slot.Meets, hlen] at hmeets

theorem lookup_op_or_invalid_of_length {op : Byte} (hlen : opcodeLength op = 1) :
    (∃ i, lookup op = .op i) ∨ lookup op = .invalid := by
  have hmeets := lookup_meets op
  cases h : lookup op with
  | op i => exact .inl ⟨i, rfl⟩
  | invalid => exact .inr rfl
  | opD8 k | opD16 k => simp [h, Slot.Meets, hlen] at hmeets

/-- The slots without an instruction are those of the listed bytes (30_encoding.md R89). -/
theorem lookup_eq_invalid_iff {op : Byte} : lookup op = .invalid ↔ op ∈ invalidOpcodes := by
  have hmeets := lookup_meets op
  cases h : lookup op with
  | invalid =>
    obtain ⟨hop, _⟩ := Slot.meets_of_lookup h
    exact iff_of_true rfl hop
  | op i | opD8 k | opD16 k => simp_all [Slot.Meets]

/-! ### The decoder -/

theorem decode_of_opD8_truncated {op : Byte} {k : Byte → Instr} (h : lookup op = .opD8 k) :
    decode [op] = .error (.truncated op) := by simp [decode, h]

theorem decode_of_opD16_truncated {op : Byte} {k : Word → Instr} (h : lookup op = .opD16 k) :
    decode [op] = .error (.truncated op) ∧ ∀ n, decode [op, n] = .error (.truncated op) := by simp [decode, h]

/-- The ways a list of bytes decodes, one per kind of slot. -/
theorem decode_cases {bs : List Byte} {i : Instr} {rest : List Byte} (h : decode bs = .ok (i, rest)) :
    (∃ op, lookup op = .op i ∧ bs = op :: rest) ∨
    (∃ op k n, lookup op = .opD8 k ∧ i = k n ∧ bs = op :: n :: rest) ∨
    (∃ op k lo hi, lookup op = .opD16 k ∧ i = k (joinBytes hi lo) ∧ bs = op :: lo :: hi :: rest) ∨
    (∃ op, lookup op = .invalid ∧ i = .invalid op ∧ bs = op :: rest) := by
  cases bs with
  | nil => nomatch h
  | cons op tail =>
    cases hslot : lookup op with
    | op j =>
      rw [decode_of_op hslot] at h
      cases h
      exact .inl ⟨op, hslot, rfl⟩
    | opD8 k =>
      cases tail with
      | nil => simp [decode_of_opD8_truncated hslot] at h
      | cons n tail =>
        rw [decode_of_opD8 hslot] at h
        cases h
        exact .inr (.inl ⟨op, k, n, hslot, rfl, rfl⟩)
    | opD16 k =>
      obtain ⟨hone, htwo⟩ := decode_of_opD16_truncated hslot
      match tail with
      | [] => simp [hone] at h
      | [n] => simp [htwo] at h
      | lo :: hi :: tail =>
        rw [decode_of_opD16 hslot] at h
        cases h
        exact .inr (.inr (.inl ⟨op, k, lo, hi, hslot, rfl, rfl⟩))
    | invalid =>
      rw [decode_of_invalid hslot] at h
      cases h
      exact .inr (.inr (.inr ⟨op, hslot, rfl, rfl⟩))

/-- Bytes that decode are what the encoder writes for a well-formed instruction, then the rest. -/
theorem encode_of_decode {bs : List Byte} {i : Instr} {rest : List Byte} (h : decode bs = .ok (i, rest)) :
    i.wellFormed = true ∧ encode i ++ rest = bs := by
  obtain ⟨op, hslot, rfl⟩ | ⟨op, k, n, hslot, rfl, rfl⟩ | ⟨op, k, lo, hi, hslot, rfl, rfl⟩ | ⟨op, hslot, rfl, rfl⟩ :=
    decode_cases h
  · obtain ⟨hwf, henc, _⟩ := Slot.meets_of_lookup hslot
    exact ⟨hwf, by rw [henc]; rfl⟩
  · obtain ⟨hoperand, _⟩ := Slot.meets_of_lookup hslot
    obtain ⟨hwf, henc⟩ := hoperand n
    exact ⟨hwf, by rw [henc]; rfl⟩
  · obtain ⟨hoperand, _⟩ := Slot.meets_of_lookup hslot
    obtain ⟨hwf, henc⟩ := hoperand (joinBytes hi lo)
    have hlo : (joinBytes hi lo).extractLsb' 0 8 = lo := lowByte_joinBytes hi lo
    have hhi : (joinBytes hi lo).extractLsb' 8 8 = hi := highByte_joinBytes hi lo
    exact ⟨hwf, by rw [henc, hlo, hhi]; rfl⟩
  · exact ⟨List.contains_iff_mem.mpr (lookup_eq_invalid_iff.mp hslot), rfl⟩

/-- An encoded word operand is joined again to the word it was. -/
theorem decode_encode_word {k : Word → Instr} {op : Byte} (h : lookup op = .opD16 k) (n : Word) (rest : List Byte) :
    decode (op :: n.extractLsb' 0 8 :: n.extractLsb' 8 8 :: rest) = .ok (k n, rest) := by
  have hjoin : n.extractLsb' 8 8 ++ n.extractLsb' 0 8 = n := joinBytes_high_low n
  rw [decode_of_opD16 h, hjoin]

/-- The bytes of an instruction of each form decode to it: its opcode byte has the form's slot in the table. -/
theorem decode_encode_instr (fm : Form) (rest : List Byte) (hwf : fm.instr.wellFormed = true) :
    decode (encode fm.instr ++ rest) = .ok (fm.instr, rest) := by
  cases fm with
  | nop => rfl
  | invalid op => exact decode_of_invalid (lookup_eq_invalid_iff.mpr (List.contains_iff_mem.mp hwf)) rest
  | alu o src =>
    cases src with
    | reg r => cases o <;> cases r <;> rfl
    | indHL => cases o <;> rfl
    | imm n => cases o <;> rfl
  | inc8 dst =>
    cases dst with
    | reg r => cases r <;> rfl
    | indHL => rfl
  | dec8 dst =>
    cases dst with
    | reg r => cases r <;> rfl
    | indHL => rfl
  | inc16 p => cases p <;> rfl
  | dec16 p => cases p <;> rfl
  | ldRegReg dst src => cases dst <;> cases src <;> rfl
  | ldRegInd dst => cases dst <;> rfl
  | ldIndReg src => cases src <;> rfl
  | ldRegImm dst n => cases dst <;> rfl
  | ldIndImm n => rfl
  | ldPairImm p n => cases p <;> exact decode_encode_word rfl n rest
  | loadAcc m =>
    cases m with
    | abs addr => exact decode_encode_word rfl addr rest
    | indBC | indDE | hlInc | hlDec | highC => rfl
  | storeAcc m =>
    cases m with
    | abs addr => exact decode_encode_word rfl addr rest
    | indBC | indDE | hlInc | hlDec | highC => rfl
  | push q => cases q <;> rfl
  | pop q => cases q <;> rfl

end Sys2Proof

namespace Sys2Proof.Machine

/-! ### A step whose instruction is known by its slot -/

theorem step_ldRegImm {s : State} {r : Reg8} (h : lookup (s.readByte s.pc) = .opD8 (Instr.ldRegImm r)) :
    step s = .next (({ s with pc := s.pc + 2#16 } : State).setReg8 r (s.readByte (s.pc + 1#16))) := by
  rw [step_eq, fetchInstr_of_opD8 h, exec_ldRegImm]

theorem step_nop {s : State} (h : lookup (s.readByte s.pc) = .op .nop) :
    step s = .next { s with pc := s.pc + 1#16 } := by
  rw [step_eq, fetchInstr_of_op h, exec_nop]

end Sys2Proof.Machine
end

section
/-! The statements of 30_encoding.md, settled. -/

namespace Sys2Proof.Machine

/-- Settles O1, form by form. -/
theorem decodeOfEncodeGivesBackTheInstruction : Obligations.DecodeOfEncodeGivesBackTheInstruction := fun i rest =>
  Instr.forall_of_forms (P := fun i => i.wellFormed = true → decode (encode i ++ rest) = .ok (i, rest))
    (fun fm => decode_encode_instr fm rest) i

/-- Settles O2, by the ways a list of bytes decodes. -/
theorem encodeOfDecodeGivesBackTheBytes : Obligations.EncodeOfDecodeGivesBackTheBytes := fun _ _ _ => encode_of_decode

/-- Settles O3: a byte's length fixes the kind of its slot, and the slot how many operand bytes are taken. -/
theorem opcodeByteSetsTheLength : Obligations.OpcodeByteSetsTheLength := by
  refine ⟨fun op hop => ?_, fun op hop => ?_, fun op hnot3 hnot2 rest => ?_⟩
  · obtain ⟨k, hslot⟩ := lookup_opD16_of_length (if_pos hop)
    obtain ⟨hone, htwo⟩ := decode_of_opD16_truncated hslot
    exact ⟨fun lo hi rest => ⟨_, decode_of_opD16 hslot lo hi rest⟩, htwo, hone⟩
  · have hnot3 : op ∉ [0x01#8, 0x11#8, 0x21#8, 0x31#8, 0xEA#8, 0xFA#8] := by
      revert op
      decide
    obtain ⟨k, hslot⟩ := lookup_opD8_of_length ((if_neg hnot3).trans (if_pos hop))
    exact ⟨fun n rest => ⟨_, decode_of_opD8 hslot n rest⟩, decode_of_opD8_truncated hslot⟩
  · obtain ⟨i, hslot⟩ | hslot := lookup_op_or_invalid_of_length ((if_neg hnot3).trans (if_neg hnot2))
    · exact ⟨i, decode_of_op hslot rest⟩
    · exact ⟨.invalid op, decode_of_invalid hslot rest⟩

/-- Settles O4: an invalid instruction is encoded as its one byte, and is well-formed for a listed byte only. -/
theorem invalidBytesAreTheListedSixtyFour : Obligations.InvalidBytesAreTheListedSixtyFour := by
  refine ⟨rfl, by decide, fun op rest => ⟨⟨fun h => ?_, fun hop => ?_⟩, fun bad rest' h => ?_⟩⟩
  · obtain ⟨hwf, _⟩ := encode_of_decode h
    exact List.contains_iff_mem.mp hwf
  · exact decode_of_invalid (lookup_eq_invalid_iff.mpr hop) rest
  · obtain ⟨_, hbytes⟩ := encode_of_decode h
    exact List.cons.inj hbytes

/-- Settles O5: the three steps from the slots of 3E, 06 and 00, and the words from the same table. -/
theorem bytesTheSourceShowsRunAsShown : Obligations.BytesTheSourceShowsRunAsShown := by
  have hldA : lookup 0x3E#8 = .opD8 (Instr.ldRegImm .a) := rfl
  have hldB : lookup 0x06#8 = .opD8 (Instr.ldRegImm .b) := rfl
  have hnop : lookup 0x00#8 = .op .nop := rfl
  refine ⟨fun s hop hn => ?_, fun s hop hn => ?_, fun s hop => ?_,
    fun n rest => ⟨decode_of_opD8 hldA n rest, decode_of_opD8 hldB n rest⟩,
    fun rest => ⟨decode_of_op hnop rest, decode_of_op rfl rest, decode_of_invalid rfl rest, decode_of_invalid rfl rest⟩,
    by decide, by decide, by decide⟩
  · exact ⟨_, step_ldRegImm (r := .a) (hop ▸ hldA), hn, rfl⟩
  · exact ⟨_, step_ldRegImm (r := .b) (hop ▸ hldB), hn, rfl⟩
  · exact ⟨_, step_nop (hop ▸ hnop), rfl⟩

/-- Settles O6: each word is what the encoder writes for the grid's instruction. -/
theorem oneWordOfEachFamilyDecodes : Obligations.OneWordOfEachFamilyDecodes := by
  have hword : ∀ i : Instr, i.wellFormed = true → decode (encode i ++ []) = .ok (i, []) := fun i =>
    decodeOfEncodeGivesBackTheInstruction i []
  exact ⟨hword .nop rfl, hword .ldBA rfl, hword .ldEIndHL rfl, hword .ldIndHLL rfl, hword (.ldIndHLd8 0xAB#8) rfl,
    hword (.ldHLd16 0x1234#16) rfl, hword (.ldAbsA 0xC234#16) rfl, hword .ldAHighC rfl, hword .adcAE rfl,
    hword .cpAIndHL rfl, hword (.xorAd8 0xFF#8) rfl, hword .incIndHL rfl, hword .decSP rfl, hword .popAF rfl,
    hword .pushBC rfl, hword (.invalid 0x76#8) rfl⟩

end Sys2Proof.Machine
end

section
/-! What fetching does, said once against the decoder and the table of lengths, and that no instruction moves PC
further. They are used below to settle the statements of 40_step_cycle.md. -/

namespace Sys2Proof.Machine

/-! ### Fetching (40_step_cycle.md R110, R111) -/

/-- Fetching decodes the three bytes at PC and moves PC past those the decoder took. -/
theorem fetchInstr_decode (s : State) :
    ∃ rest, decode [s.readByte s.pc, s.readByte (s.pc + 1#16), s.readByte (s.pc + 2#16)] =
        .ok ((fetchInstr s).1, rest) ∧
      (fetchInstr s).2 = { s with pc := s.pc + BitVec.ofNat 16 (3 - rest.length) } := by
  cases h : lookup (s.readByte s.pc) with
  | op i => rw [fetchInstr_of_op h]; exact ⟨_, decode_of_op h _, rfl⟩
  | opD8 k => rw [fetchInstr_of_opD8 h]; exact ⟨_, decode_of_opD8 h _ _, rfl⟩
  | opD16 k => rw [fetchInstr_of_opD16 h]; exact ⟨_, decode_of_opD16 h _ _ _, rfl⟩
  | invalid => rw [fetchInstr_of_invalid h]; exact ⟨_, decode_of_invalid h _, rfl⟩

/-- Fetching moves PC by the length the opcode byte sets (30_encoding.md R93). -/
theorem fetchInstr_pc (s : State) :
    (fetchInstr s).2.pc = s.pc + BitVec.ofNat 16 (opcodeLength (s.readByte s.pc)) := by
  cases h : lookup (s.readByte s.pc) with
  | op i => obtain ⟨_, _, _, hlen⟩ := Slot.meets_of_lookup h; rw [fetchInstr_of_op h, hlen]
  | opD8 k => obtain ⟨_, _, hlen⟩ := Slot.meets_of_lookup h; rw [fetchInstr_of_opD8 h, hlen]
  | opD16 k => obtain ⟨_, _, hlen⟩ := Slot.meets_of_lookup h; rw [fetchInstr_of_opD16 h, hlen]
  | invalid => obtain ⟨_, hlen⟩ := Slot.meets_of_lookup h; rw [fetchInstr_of_invalid h, hlen]

/-- An invalid instruction is fetched from a listed byte only (30_encoding.md R89). -/
theorem mem_invalidOpcodes_of_fetchInstr {s : State} {op : Byte} (h : (fetchInstr s).1 = .invalid op) :
    s.readByte s.pc ∈ invalidOpcodes := by
  obtain ⟨rest, hdecode, _⟩ := fetchInstr_decode s
  rw [h] at hdecode
  obtain ⟨hwf, hbytes⟩ := encode_of_decode hdecode
  obtain ⟨hop, _⟩ := List.cons.inj hbytes
  exact hop ▸ List.contains_iff_mem.mp hwf

/-! ### PC through an instruction (40_step_cycle.md R118) -/

@[simp] theorem aluEffect_pc (o : AluOp) (s : State) (b : Byte) : (aluEffect o s b).pc = s.pc := by cases o <;> rfl
@[simp] theorem State.modify8_pc (s : State) (prim : Byte → Byte → AluOut) (dst : Operand8) :
    (s.modify8 prim dst).pc = s.pc := by simp [State.modify8]
@[simp] theorem State.loadAcc_pc (s : State) (m : AccMode) : (s.loadAcc m).pc = s.pc := by simp [State.loadAcc]
@[simp] theorem State.storeAcc_pc (s : State) (m : AccMode) : (s.storeAcc m).pc = s.pc := by simp [State.storeAcc]
@[simp] theorem State.pushPair_pc (s : State) (q : Pair) : (s.pushPair q).pc = s.pc := by simp [State.pushPair_eq]
@[simp] theorem State.popPair_pc (s : State) (q : Pair) : (s.popPair q).pc = s.pc := by simp [State.popPair_eq]

/-- No form of an instruction moves PC. -/
theorem Form.effect_pc {fm : Form} {s t : State} (h : Form.effect fm s = some t) : t.pc = s.pc := by
  cases fm with
  | invalid op => cases h
  | _ => cases h; simp

theorem exec_pc {i : Instr} {s t : State} (h : exec i s = .next t) : t.pc = s.pc := Form.effect_pc (exec_next_effect h)

/-! ### A step at an admitted and at an invalid byte (40_step_cycle.md R114, R117; 60_exceptions.md R250, R255) -/

/-- A step that answers a next state leaves PC past exactly the bytes of its instruction. -/
theorem step_pc {s t : State} (h : step s = .next t) :
    t.pc = s.pc + BitVec.ofNat 16 (opcodeLength (s.readByte s.pc)) :=
  (exec_pc (step_eq s ▸ h)).trans (fetchInstr_pc s)

/-- A step faults only if it fetched an invalid instruction, so an admitted byte always completes. -/
theorem step_completes_of_admitted {s : State} (h : s.readByte s.pc ∉ invalidOpcodes) : ∃ t, step s = .next t := by
  obtain hnext | ⟨op, hinvalid, _⟩ := exec_cases (fetchInstr s).1 (fetchInstr s).2
  · exact hnext
  · exact absurd (mem_invalidOpcodes_of_fetchInstr hinvalid) h

/-- The fault reports the byte, the address it was fetched from, and the state with PC one further (D5). -/
theorem step_of_invalid {s : State} (h : s.readByte s.pc ∈ invalidOpcodes) :
    step s = .fault (.invalidOpcode (s.readByte s.pc) s.pc { s with pc := s.pc + 1#16 }) := by
  rw [step_eq, fetchInstr_of_invalid (lookup_eq_invalid_iff.mpr h), exec_invalid, BitVec.add_sub_cancel]

end Sys2Proof.Machine
end

section
/-! The statements of 40_step_cycle.md, settled. -/

namespace Sys2Proof.Machine

/-- Settles O9: the step completes unless it fetched an invalid byte, and PC is moved by the fetch alone. -/
theorem admittedBytesStepAndInvalidBytesFault : Obligations.AdmittedBytesStepAndInvalidBytesFault := by
  refine fun s => ⟨fun hadmitted => ?_, step_of_invalid⟩
  obtain ⟨t, hstep⟩ := step_completes_of_admitted hadmitted
  exact ⟨t, hstep, step_pc hstep⟩

/-- Settles O52: whatever form the instruction has, its effect keeps PC. -/
theorem noInstructionTransfersControl : Obligations.NoInstructionTransfersControl := fun _ _ _ => exec_pc

/-- Settles O7: what is fetched is what the decoder answers, and the decoder has one answer. -/
theorem stepRunsTheDecodedInstruction : Obligations.StepRunsTheDecodedInstruction := by
  intro s
  obtain ⟨rest, hdecode, hfetched⟩ := fetchInstr_decode s
  refine ⟨⟨_, rest, hdecode⟩, fun i rest' h => ?_⟩
  cases hdecode.symm.trans h
  rw [step_eq, hfetched]

/-- Settles O8: the two bytes are joined with the first one low. -/
theorem fetchSixteenIsLowByteFirst : Obligations.FetchSixteenIsLowByteFirst := by
  intro s
  rw [State.fetch16_eq, ← joinBytes_eq_or]
  exact ⟨rfl, rfl⟩

/-- Settles O49: NOP answers the state it is given. -/
theorem nopChangesNothing : Obligations.NopChangesNothing := exec_nop

end Sys2Proof.Machine
end

section
/-! The ALU primitives' own laws: the result of each as a number, and its flag byte as the four conditions of its row of
41_alu.md packed into one byte. Then what writing such a flag byte leaves in a state. They are used below to settle the
statements of 41_alu.md. -/

namespace Sys2Proof.Machine

/-! ### A packed flag byte -/

/-- The four flag bits of a packed byte. -/
theorem flagBits_of_packed {f : Byte} {z n hf cy : Bool} (h : f = packFlags z n hf cy) :
    f.getLsbD 7 = z ∧ f.getLsbD 6 = n ∧ f.getLsbD 5 = hf ∧ f.getLsbD 4 = cy := by
  subst h
  exact ⟨packFlags_bit7 z n hf cy, packFlags_bit6 z n hf cy, packFlags_bit5 z n hf cy, packFlags_bit4 z n hf cy⟩

/-- Writing a packed byte to F stores it whole. -/
theorem and_F0_of_packed {f : Byte} {z n hf cy : Bool} (h : f = packFlags z n hf cy) : f &&& 0xF0#8 = f := by
  rw [h, packFlags_masked]

/-- INC and DEC leave bit 4 open and take it from the old flag byte (41_alu.md R138 to R140). -/
theorem packFlags_keep_carry (z n hf : Bool) (f : Byte) :
    packFlags z n hf false ||| (f &&& 0x10#8) = packFlags z n hf (f.getLsbD 4) := by
  have hkept : f &&& 0x10#8 = (BitVec.ofBool (f.getLsbD 4)).setWidth 8 <<< 4 := by
    rw [show (0x10#8 : Byte) = BitVec.twoPow 8 4 from rfl, BitVec.and_twoPow]
    cases f.getLsbD 4 <;> rfl
  rw [hkept]
  exact congrArg (· ||| _) BitVec.or_zero

theorem packFlags_beq_zero (r : Byte) (n hf cy : Bool) :
    packFlags (r == 0#8) n hf cy = if r = 0#8 then packFlags true n hf cy else packFlags false n hf cy := by
  by_cases hr : r = 0#8
  · rw [if_pos hr, hr]
    rfl
  · rw [if_neg hr, beq_eq_false_iff_ne.mpr hr]

/-! ### Conditions on bytes as conditions on numbers -/

theorem beq_zero_eq_decide_toNat (r : Byte) : (r == 0#8) = decide (r.toNat = 0) :=
  (beq_eq_decide r 0#8).trans (decide_eq_decide.mpr BitVec.toNat_inj.symm)

theorem decide_toNat_eq (a b : Byte) : decide (a.toNat = b.toNat) = decide (a = b) :=
  decide_eq_decide.mpr BitVec.toNat_inj

theorem getLsbD_eq_decide_div_mod (x : Byte) (i : Nat) : x.getLsbD i = decide (x.toNat / 2 ^ i % 2 = 1) := by
  rw [← BitVec.testBit_toNat, Nat.testBit_eq_decide_div_mod_eq]

/-! ### The rows of the primitives (41_alu.md R130 to R139) -/

theorem add8_result (a b : Byte) : (add8 a b).result.toNat = (a.toNat + b.toNat) % 256 := BitVec.toNat_add a b

theorem add8_flags (a b : Byte) :
    (add8 a b).flags = packFlags (decide ((a.toNat + b.toNat) % 256 = 0)) false
      (decide (a.toNat % 16 + b.toNat % 16 > 15)) (decide (a.toNat + b.toNat > 255)) := by
  rw [← add8_result, ← beq_zero_eq_decide_toNat, ← lowNibble_eq_mod, ← lowNibble_eq_mod]
  rfl

theorem adc8_result (a b : Byte) (cin : Bool) :
    (adc8 a b cin).result.toNat = (a.toNat + b.toNat + cin.toNat) % 256 := BitVec.toNat_ofNat _ 8

theorem adc8_flags (a b : Byte) (cin : Bool) :
    (adc8 a b cin).flags = packFlags (decide ((a.toNat + b.toNat + cin.toNat) % 256 = 0)) false
      (decide (a.toNat % 16 + b.toNat % 16 + cin.toNat > 15)) (decide (a.toNat + b.toNat + cin.toNat > 255)) := by
  rw [← adc8_result, ← beq_zero_eq_decide_toNat, ← lowNibble_eq_mod, ← lowNibble_eq_mod]
  rfl

theorem sub8_result (a b : Byte) : (sub8 a b).result.toNat = (a.toNat + 256 - b.toNat) % 256 := by
  have hsub : (sub8 a b).result.toNat = (256 - b.toNat + a.toNat) % 256 := BitVec.toNat_sub a b
  have hb := b.isLt
  omega

theorem sub8_flags (a b : Byte) :
    (sub8 a b).flags = packFlags (decide (a = b)) true (decide (a.toNat % 16 < b.toNat % 16))
      (decide (a.toNat < b.toNat)) := by
  have hzero : (a - b == 0#8) = decide (a = b) := (beq_eq_decide _ _).trans (decide_eq_decide.mpr sub_eq_zero)
  rw [← hzero, ← lowNibble_eq_mod, ← lowNibble_eq_mod]
  rfl

theorem sbc8_result (a b : Byte) (cin : Bool) :
    (sbc8 a b cin).result.toNat = (a.toNat + 512 - b.toNat - cin.toNat) % 256 := by
  have hcin : (BitVec.ofNat 8 cin.toNat).toNat = cin.toNat := by cases cin <;> rfl
  have hsub : (sbc8 a b cin).result.toNat = (256 - cin.toNat + (256 - b.toNat + a.toNat) % 256) % 256 := by
    rw [← hcin]
    exact (BitVec.toNat_sub _ _).trans (by rw [BitVec.toNat_sub])
  have hb := b.isLt
  have hle := cin.toNat_le
  omega

theorem sbc8_flags (a b : Byte) (cin : Bool) :
    (sbc8 a b cin).flags = packFlags (decide ((a.toNat + 512 - b.toNat - cin.toNat) % 256 = 0)) true
      (decide (a.toNat % 16 < b.toNat % 16 + cin.toNat)) (decide (a.toNat < b.toNat + cin.toNat)) := by
  rw [← sbc8_result, ← beq_zero_eq_decide_toNat, ← lowNibble_eq_mod, ← lowNibble_eq_mod]
  rfl

theorem and8_flags (a b : Byte) : (and8 a b).flags = if a &&& b = 0#8 then 0xA0#8 else 0x20#8 :=
  packFlags_beq_zero _ _ _ _

theorem or8_flags (a b : Byte) : (or8 a b).flags = if a ||| b = 0#8 then 0x80#8 else 0x00#8 :=
  packFlags_beq_zero _ _ _ _

theorem xor8_flags (a b : Byte) : (xor8 a b).flags = if a ^^^ b = 0#8 then 0x80#8 else 0x00#8 :=
  packFlags_beq_zero _ _ _ _

theorem cp8_flags (a b : Byte) :
    cp8 a b = packFlags (decide (a = b)) true (decide (a.toNat % 16 < b.toNat % 16)) (decide (a.toNat < b.toNat)) := by
  rw [← beq_eq_decide, ← lowNibble_eq_mod, ← lowNibble_eq_mod]
  rfl

theorem inc8_result (x f : Byte) : (inc8 x f).result.toNat = (x.toNat + 1) % 256 := BitVec.toNat_add x 1#8

theorem inc8_flags (x f : Byte) :
    (inc8 x f).flags =
      packFlags (decide (x = 0xFF#8)) false (decide (x.toNat % 16 = 15)) (f.getLsbD 4) := by
  have hzero : (x + 1#8 == 0#8) = decide (x = 0xFF#8) :=
    (beq_eq_decide _ _).trans (decide_eq_decide.mpr (by bv_omega))
  have hhalf : decide (lowNibble x + 1 > 0xF) = decide (x.toNat % 16 = 15) := by
    rw [lowNibble_eq_mod]
    exact decide_eq_decide.mpr (by omega)
  rw [← packFlags_keep_carry, ← hzero, ← hhalf]
  rfl

theorem dec8_result (x f : Byte) : (dec8 x f).result.toNat = (x.toNat + 255) % 256 :=
  (BitVec.toNat_sub x 1#8).trans (congrArg (· % 256) (Nat.add_comm 255 x.toNat))

theorem dec8_flags (x f : Byte) :
    (dec8 x f).flags =
      packFlags (decide (x = 0x01#8)) true (decide (x.toNat % 16 = 0)) (f.getLsbD 4) := by
  have hzero : (x - 1#8 == 0#8) = decide (x = 0x01#8) := (beq_eq_decide _ _).trans (decide_eq_decide.mpr sub_eq_zero)
  have hhalf : decide (lowNibble x < 1) = decide (x.toNat % 16 = 0) := by
    rw [lowNibble_eq_mod]
    exact decide_eq_decide.mpr Nat.lt_one_iff
  rw [← packFlags_keep_carry, ← hzero, ← hhalf]
  rfl

/-! ### Laws between the primitives and on equal operands (41_alu.md R141, R172) -/

theorem cp8_eq_sub8_flags (a b : Byte) : cp8 a b = (sub8 a b).flags := (cp8_flags a b).trans (sub8_flags a b).symm

theorem adc8_false (a b : Byte) : adc8 a b false = add8 a b := by
  simp only [adc8, add8, Bool.toNat_false, Nat.add_zero, BitVec.ofNat_add, BitVec.ofNat_toNat, BitVec.setWidth_eq]

theorem sbc8_false (a b : Byte) : sbc8 a b false = sub8 a b := by
  simp only [sbc8, sub8, Bool.toNat_false, Nat.add_zero, BitVec.sub_zero]

theorem add8_self_flags (a : Byte) :
    (add8 a a).flags =
      packFlags (decide (a = 0x00#8) || decide (a = 0x80#8)) false (a.getLsbD 3) (a.getLsbD 7) := by
  have ha := a.isLt
  rw [add8_flags, getLsbD_eq_decide_div_mod, getLsbD_eq_decide_div_mod, ← Bool.decide_or]
  congr 1
  · exact decide_eq_decide.mpr (by bv_omega)
  · exact decide_eq_decide.mpr (by omega)
  · exact decide_eq_decide.mpr (by omega)

theorem sub8_self (a : Byte) : sub8 a a = ⟨0x00#8, 0xC0#8⟩ := by
  simp only [sub8, BitVec.sub_self, Nat.lt_irrefl]
  rfl

/-- A borrow from equal operands leaves -1. -/
theorem sbc8_self (a : Byte) (cin : Bool) : sbc8 a a cin = if cin then ⟨0xFF#8, 0x70#8⟩ else ⟨0x00#8, 0xC0#8⟩ := by
  cases cin with
  | false => exact (sbc8_false a a).trans (sub8_self a)
  | true =>
    simp only [sbc8, BitVec.sub_self, Bool.toNat_true, Nat.lt_succ_self]
    rfl

theorem xor8_self (a : Byte) : xor8 a a = ⟨0x00#8, 0x80#8⟩ := by
  simp only [xor8, BitVec.xor_self]
  rfl

theorem cp8_self (a : Byte) : cp8 a a = 0xC0#8 := by rw [cp8_eq_sub8_flags, sub8_self]

/-! ### A state after a packed byte was written to F -/

/-- The flags of a state whose F is a packed byte. -/
theorem State.flags_of_packed {t : State} {z n hf cy : Bool} (h : t.f = packFlags z n hf cy) :
    t.getFlag .z = z ∧ t.getFlag .n = n ∧ t.getFlag .hf = hf ∧ t.getFlag .cy = cy ∧ t.f &&& 0x0F#8 = 0#8 := by
  obtain ⟨hz, hn, hhf, hcy⟩ := flagBits_of_packed h
  exact ⟨hz, hn, hhf, hcy, by rw [h, packFlags_lowNibble]⟩

/-- `(A, F) <- prim(...)` changes A and F, and F takes the primitive's flags whole. -/
theorem State.setAcc_of_packed (s : State) {o : AluOut} {z n hf cy : Bool} (h : o.flags = packFlags z n hf cy) :
    s.setAcc o = { s with a := o.result, f := o.flags } := by
  rw [State.setAcc, State.setF, and_F0_of_packed h]

/-- The flags and the frame of `(A, F) <- prim(...)`. -/
theorem State.setAcc_flags_frame (s : State) {o : AluOut} {z n hf cy : Bool} (h : o.flags = packFlags z n hf cy) :
    (s.setAcc o).getFlag .z = z ∧ (s.setAcc o).getFlag .n = n ∧ (s.setAcc o).getFlag .hf = hf ∧
      (s.setAcc o).getFlag .cy = cy ∧ (s.setAcc o).f &&& 0x0F#8 = 0#8 ∧
      s.setAcc o = { s with a := (s.setAcc o).a, f := (s.setAcc o).f } := by
  obtain ⟨hz, hn, hhf, hcy, hlow⟩ := State.flags_of_packed (t := s.setAcc o) ((and_F0_of_packed h).trans h)
  exact ⟨hz, hn, hhf, hcy, hlow, rfl⟩

/-- CP writes its flag byte whole to F, and nothing else. -/
theorem exec_cp (src : Src8) (s : State) :
    exec (Instr.alu .cp src) s = .next { s with f := cp8 s.a (s.src8 src) } := by
  rw [exec_alu, aluEffect, State.setF, and_F0_of_packed (cp8_flags _ _)]

/-! ### INC and DEC in place (41_alu.md R166 to R171) -/

/-- A register changed in place: its new value, every other register as before, the flags, and the frame. -/
theorem State.modify8_reg_effect (s : State) (r : Reg8) {prim : Byte → Byte → AluOut} {z n hf cy : Bool}
    (h : (prim (s.reg8 r) s.f).flags = packFlags z n hf cy) :
    let t := s.modify8 prim (.reg r)
    (∀ x, t.reg8 x = if x = r then (prim (s.reg8 r) s.f).result else s.reg8 x) ∧
      t.getFlag .z = z ∧ t.getFlag .n = n ∧ t.getFlag .hf = hf ∧ t.getFlag .cy = cy ∧ t.f &&& 0x0F#8 = 0#8 ∧
      t.sp = s.sp ∧ t.pc = s.pc ∧ t.mem = s.mem := by
  intro t
  obtain ⟨hz, hn, hhf, hcy, hlow⟩ := State.flags_of_packed (t := t) ((and_F0_of_packed h).trans h)
  exact ⟨fun x => (State.setF_reg8 _ _ x).trans (State.reg8_setReg8 s r x _), hz, hn, hhf, hcy, hlow,
    State.modify8_sp _ _ _, State.modify8_pc _ _ _, State.modify8_reg_mem _ _ _⟩

/-- The byte at HL changed in place: its new value, every other byte as before, the flags, and the frame. -/
theorem State.modify8_indHL_effect (s : State) {prim : Byte → Byte → AluOut} {z n hf cy : Bool}
    (h : (prim (s.readByte s.hl) s.f).flags = packFlags z n hf cy) :
    let t := s.modify8 prim .indHL
    (∀ x, t.readByte x = if x = s.hl then (prim (s.readByte s.hl) s.f).result else s.readByte x) ∧
      t.getFlag .z = z ∧ t.getFlag .n = n ∧ t.getFlag .hf = hf ∧ t.getFlag .cy = cy ∧ t.f &&& 0x0F#8 = 0#8 ∧
      t = { s with f := t.f, mem := t.mem } := by
  intro t
  obtain ⟨hz, hn, hhf, hcy, hlow⟩ := State.flags_of_packed (t := t) ((and_F0_of_packed h).trans h)
  exact ⟨State.readByte_writeByte s s.hl _, hz, hn, hhf, hcy, hlow, rfl⟩

/-- A pair of the table rp read after a write of one of them. -/
theorem State.regPair_setRegPair (s : State) (p x : RegPair) (v : Word) :
    (s.setRegPair p v).regPair x = if x = p then v else s.regPair x := by
  cases p <;> cases x
  case bc.bc => exact State.pair_setPair_same s .bc v
  case de.de => exact State.pair_setPair_same s .de v
  case hl.hl => exact State.pair_setPair_same s .hl v
  all_goals rfl

@[simp] theorem State.setRegPair_a (s : State) (p : RegPair) (v : Word) : (s.setRegPair p v).a = s.a := by
  cases p <;> rfl

/-- A pair written: its new value, the other pairs as before, and the frame. -/
theorem State.setRegPair_effect (s : State) (p : RegPair) (v : Word) :
    let t := s.setRegPair p v
    t.regPair p = v ∧ (∀ x, x ≠ p → t.regPair x = s.regPair x) ∧ t.f = s.f ∧ t.a = s.a ∧ t.pc = s.pc ∧ t.mem = s.mem :=
  ⟨(State.regPair_setRegPair s p p v).trans (if_pos rfl),
    fun x hx => (State.regPair_setRegPair s p x v).trans (if_neg hx),
    State.setRegPair_f s p v, State.setRegPair_a s p v, State.setRegPair_pc s p v, State.setRegPair_mem s p v⟩

end Sys2Proof.Machine
end

section
/-! The statements of 41_alu.md, settled. -/

namespace Sys2Proof.Machine

/-- Settles O20: the row of add8. -/
theorem addPrimitiveMeetsItsTableRow : Obligations.AddPrimitiveMeetsItsTableRow := fun a b =>
  ⟨add8_result a b, flagBits_of_packed (add8_flags a b)⟩

/-- Settles O21: the row of adc8, and ADC writes it with the carry of the old F. -/
theorem addWithCarryPrimitiveMeetsItsTableRow : Obligations.AddWithCarryPrimitiveMeetsItsTableRow := by
  refine ⟨fun a b cin => ⟨adc8_result a b cin, flagBits_of_packed (adc8_flags a b cin)⟩, fun s src => ?_⟩
  exact ⟨_, exec_alu .adc src s, rfl, and_F0_of_packed (adc8_flags _ _ _)⟩

/-- Settles O22: the rows of sub8 and sbc8. -/
theorem subtractPrimitivesMeetTheirTableRows : Obligations.SubtractPrimitivesMeetTheirTableRows := by
  intro a b
  rw [decide_toNat_eq]
  exact ⟨⟨sub8_result a b, flagBits_of_packed (sub8_flags a b)⟩,
    fun cin => ⟨sbc8_result a b cin, flagBits_of_packed (sbc8_flags a b cin)⟩⟩

/-- Settles O23: the rows of and8, or8 and xor8; a xor is zero when its operands are equal. -/
theorem logicPrimitivesMeetTheirTableRows : Obligations.LogicPrimitivesMeetTheirTableRows := by
  intro a b
  refine ⟨⟨rfl, and8_flags a b⟩, ⟨rfl, or8_flags a b⟩, ⟨rfl, ?_⟩⟩
  simp only [xor8_flags, BitVec.xor_eq_zero_iff]

/-- Settles O24: the row of cp8, and CP writes it to F and nothing else. -/
theorem comparePrimitiveMeetsItsTableRow : Obligations.ComparePrimitiveMeetsItsTableRow := by
  exact ⟨fun a b => ⟨cp8_eq_sub8_flags a b, flagBits_of_packed (cp8_flags a b)⟩, fun s src => exec_cp src s⟩

/-- Settles O25: the rows of inc8 and dec8, whose fourth flag is the old carry bit. -/
theorem incrementAndDecrementPrimitivesKeepCarry : Obligations.IncrementAndDecrementPrimitivesKeepCarry := by
  intro x f
  have h255 : decide (x.toNat = 255) = decide (x = 0xFF#8) := decide_toNat_eq x 0xFF#8
  have hone : decide (x.toNat = 1) = decide (x = 0x01#8) := decide_toNat_eq x 0x01#8
  rw [h255, hone]
  exact ⟨⟨inc8_result x f, flagBits_of_packed (inc8_flags x f)⟩, ⟨dec8_result x f, flagBits_of_packed (dec8_flags x f)⟩⟩

/-- Settles O26, law by law. -/
theorem arithmeticLawsOfThePrimitives : Obligations.ArithmeticLawsOfThePrimitives := by
  refine ⟨fun x f g => ⟨BitVec.add_sub_cancel x 1#8, BitVec.sub_add_cancel x 1#8⟩,
    fun a b => ⟨cp8_eq_sub8_flags a b, adc8_false a b, sbc8_false a b⟩,
    fun a => ⟨xor8_self a, sub8_self a, BitVec.and_self, BitVec.or_self, ?_, ?_⟩⟩
  · rw [Nat.two_mul]
    exact add8_result a a
  · obtain ⟨_, _, hhalf, hcarry⟩ := flagBits_of_packed (add8_self_flags a)
    exact ⟨hcarry, hhalf⟩

/-- Settles O27: ADD writes add8 of A and the operand to A and F. -/
theorem addInstructionsWriteSumAndFlags : Obligations.AddInstructionsWriteSumAndFlags := fun s src =>
  ⟨_, exec_alu .add src s, add8_result _ _, State.setAcc_flags_frame s (add8_flags _ _)⟩

/-- Settles O28: ADC writes adc8 of A, the operand and the old carry to A and F. -/
theorem addWithCarryInstructionsWriteSumAndFlags : Obligations.AddWithCarryInstructionsWriteSumAndFlags := fun s src =>
  ⟨_, exec_alu .adc src s, adc8_result _ _ _, State.setAcc_flags_frame s (adc8_flags _ _ _)⟩

/-- Settles O29: SUB writes sub8 of A and the operand to A and F. -/
theorem subtractInstructionsWriteDifferenceAndFlags : Obligations.SubtractInstructionsWriteDifferenceAndFlags :=
  fun s src => ⟨_, exec_alu .sub src s, sub8_result _ _, State.setAcc_flags_frame s (sub8_flags _ _)⟩

/-- Settles O30: SBC writes sbc8 of A, the operand and the old carry to A and F. -/
theorem subtractWithCarryInstructionsWriteDifferenceAndFlags :
    Obligations.SubtractWithCarryInstructionsWriteDifferenceAndFlags := fun s src =>
  ⟨_, exec_alu .sbc src s, sbc8_result _ _ _, State.setAcc_flags_frame s (sbc8_flags _ _ _)⟩

/-- Settles O31: each writes its primitive's result to A and its flag byte whole to F. -/
theorem logicInstructionsWriteResultAndFlags : Obligations.LogicInstructionsWriteResultAndFlags := by
  intro s src
  rw [exec_alu, exec_alu, exec_alu, ← and8_flags, ← xor8_flags, ← or8_flags]
  exact ⟨congrArg _ (State.setAcc_of_packed s rfl), congrArg _ (State.setAcc_of_packed s rfl),
    congrArg _ (State.setAcc_of_packed s rfl)⟩

/-- Settles O32: CP writes cp8 of A and the operand to F. -/
theorem compareInstructionsWriteFlagsOnly : Obligations.CompareInstructionsWriteFlagsOnly := by
  intro s src
  obtain ⟨hz, hn, hhf, hcy, hlow⟩ :=
    State.flags_of_packed (t := { s with f := cp8 s.a (s.src8 src) }) (cp8_flags s.a (s.src8 src))
  exact ⟨_, exec_cp src s, hz, hn, hhf, hcy, hlow, rfl⟩

/-- Settles O33: each instruction is its form with the register A, where the primitive's operands are equal. -/
theorem accumulatorAsBothOperands : Obligations.AccumulatorAsBothOperands := by
  intro s
  have hself : ∀ o : AluOp, exec (Instr.alu o (.reg .a)) s = .next (aluEffect o s s.a) := fun o => exec_alu o _ s
  obtain ⟨hand, hxor, hor⟩ := logicInstructionsWriteResultAndFlags s (.reg .a)
  refine ⟨⟨_, hself .add, ?_, ?_⟩, ⟨_, hself .adc, ?_, ?_⟩, ?_, ?_, ?_, ?_, ?_, ?_⟩
  · rw [Nat.two_mul]
    exact add8_result s.a s.a
  · obtain ⟨hz, hn, hhf, hcy, _⟩ := State.setAcc_flags_frame s (add8_self_flags s.a)
    exact ⟨hz, hn, hhf, hcy⟩
  · rw [Nat.two_mul]
    exact adc8_result s.a s.a s.cin
  · obtain ⟨_, _, hhf, hcy, _⟩ := State.setAcc_flags_frame s (adc8_flags s.a s.a s.cin)
    rw [Nat.two_mul, Nat.two_mul]
    exact ⟨hhf, hcy⟩
  · exact (hself .sub).trans (by rw [aluEffect, sub8_self]; rfl)
  · refine (hself .sbc).trans ?_
    rw [aluEffect, sbc8_self, State.cin]
    cases s.getFlag .cy <;> rfl
  · exact hand.trans (by rw [State.src8, State.reg8_eq_a, BitVec.and_self])
  · exact (hself .xor).trans (by rw [aluEffect, xor8_self]; rfl)
  · exact hor.trans (by rw [State.src8, State.reg8_eq_a, BitVec.or_self])
  · exact (exec_cp (.reg .a) s).trans (by rw [State.src8, State.reg8_eq_a, cp8_self])

/-- Settles O34: the register is changed in place by inc8 or dec8. -/
theorem incrementAndDecrementOfARegister : Obligations.IncrementAndDecrementOfARegister := fun s r =>
  ⟨⟨_, exec_inc8 (.reg r) s, State.modify8_reg_effect s r (inc8_flags _ _)⟩,
    ⟨_, exec_dec8 (.reg r) s, State.modify8_reg_effect s r (dec8_flags _ _)⟩⟩

/-- Settles O35: the byte at HL is changed in place by inc8 or dec8. -/
theorem incrementAndDecrementOfTheByteAtHL : Obligations.IncrementAndDecrementOfTheByteAtHL := fun s =>
  ⟨⟨_, exec_inc8 .indHL s, State.modify8_indHL_effect s (inc8_flags _ _)⟩,
    ⟨_, exec_dec8 .indHL s, State.modify8_indHL_effect s (dec8_flags _ _)⟩⟩

/-- Settles O36: the pair is written with its value one up or down, and a pair write changes nothing else. -/
theorem incrementAndDecrementOfAPairTouchNoFlag : Obligations.IncrementAndDecrementOfAPairTouchNoFlag := by
  intro s p
  have hinc : (s.regPair p + 1#16).toNat = ((s.regPair p).toNat + 1) % 65536 := BitVec.toNat_add _ 1#16
  have hdec : (s.regPair p - 1#16).toNat = ((s.regPair p).toNat + 65535) % 65536 :=
    (BitVec.toNat_sub _ 1#16).trans (congrArg (· % 65536) (Nat.add_comm 65535 _))
  obtain ⟨hup, hframeUp⟩ := State.setRegPair_effect s p (s.regPair p + 1#16)
  obtain ⟨hdown, hframeDown⟩ := State.setRegPair_effect s p (s.regPair p - 1#16)
  exact ⟨⟨_, exec_inc16 p s, (congrArg BitVec.toNat hup).trans hinc, hframeUp⟩,
    ⟨_, exec_dec16 p s, (congrArg BitVec.toNat hdown).trans hdec, hframeDown⟩⟩

end Sys2Proof.Machine
end

section
/-! The loads' own rules: what a register write, a byte store and an access that moves A leave in a state, and where HL
is after it moved. They are used below to settle the statements of 42_loads.md. -/

namespace Sys2Proof.Machine

/-! ### A register written -/

/-- A register written: its new value, every other register as before, and the frame. -/
theorem State.setReg8_effect (s : State) (r : Reg8) (v : Byte) :
    let t := s.setReg8 r v
    (∀ x, t.reg8 x = if x = r then v else s.reg8 x) ∧ t.f = s.f ∧ t.sp = s.sp ∧ t.pc = s.pc ∧ t.mem = s.mem :=
  ⟨fun x => State.reg8_setReg8 s r x v, State.setReg8_f s r v, State.setReg8_sp s r v, State.setReg8_pc s r v,
    State.setReg8_mem s r v⟩

/-! ### Moving A from and to memory (42_loads.md R200) -/

/-- The high-page address as the sum the spec writes (42_loads.md R197, R198): C has no bit in common with 0xFF00. -/
theorem State.effAddr_highC_eq_add (s : State) : s.effAddr .highC = 0xFF00#16 + s.c.setWidth 16 := by
  obtain ⟨_, hnat, _⟩ := highPageAddressNeverWraps s
  bv_omega

/-- A after a load is the byte at the address taken before the side effect. -/
@[simp] theorem State.loadAcc_a (s : State) (m : AccMode) : (s.loadAcc m).a = s.readByte (s.effAddr m) :=
  State.afterAccess_a _ m

@[simp] theorem State.afterAccess_readByte (s : State) (m : AccMode) (x : Word) :
    (s.afterAccess m).readByte x = s.readByte x := by simp [State.readByte]

/-- A byte read after A was stored: the address is the one before the side effect. -/
theorem State.readByte_storeAcc (s : State) (m : AccMode) (x : Word) :
    (s.storeAcc m).readByte x = if x = s.effAddr m then s.a else s.readByte x :=
  (State.afterAccess_readByte _ m x).trans (State.readByte_writeByte s (s.effAddr m) s.a x)

/-! ### HL after `(HL+)` and `(HL-)` -/

/-- `(HL+)` moves HL one up, and 0xFFFF to 0. -/
theorem State.afterAccess_hlInc_hl_toNat (s : State) :
    ((s.afterAccess .hlInc).pair .hl).toNat = ((s.pair .hl).toNat + 1) % 65536 :=
  (congrArg BitVec.toNat (State.pair_setPair_same s .hl _)).trans (BitVec.toNat_add _ 1#16)

/-- `(HL-)` moves HL one down, and 0 to 0xFFFF. -/
theorem State.afterAccess_hlDec_hl_toNat (s : State) :
    ((s.afterAccess .hlDec).pair .hl).toNat = ((s.pair .hl).toNat + 65535) % 65536 := by
  have hpair : (s.afterAccess .hlDec).pair .hl = s.hl - 1#16 := State.pair_setPair_same s .hl _
  rw [hpair, BitVec.toNat_sub, Nat.add_comm]
  rfl

end Sys2Proof.Machine
end

section
/-! The statements of 42_loads.md, settled. -/

namespace Sys2Proof.Machine

/-- Settles O37: each load writes one register, with the old source, the byte at the old HL or the immediate. -/
theorem registerLoadsChangeOneRegister : Obligations.RegisterLoadsChangeOneRegister := fun s dst =>
  ⟨fun src => ⟨_, exec_ldRegReg dst src s, State.setReg8_effect s dst _⟩,
    ⟨_, exec_ldRegInd dst s, State.setReg8_effect s dst _⟩,
    fun n => ⟨_, exec_ldRegImm dst n s, State.setReg8_effect s dst n⟩⟩

/-- Settles O38: each store is one byte write at HL. -/
theorem storesThroughHLChangeOneByte : Obligations.StoresThroughHLChangeOneByte := fun s =>
  ⟨fun src => ⟨_, exec_ldIndReg src s, byteWriteChangesExactlyThatByte s s.hl _⟩,
    fun n => ⟨_, exec_ldIndImm n s, byteWriteChangesExactlyThatByte s s.hl n⟩⟩

/-- Settles O41: each store writes A at its mode's effective address, and these modes have no side effect. -/
theorem accumulatorStoresChangeOneByte : Obligations.AccumulatorStoresChangeOneByte := by
  intro s
  rw [← State.effAddr_highC_eq_add]
  exact ⟨⟨_, exec_storeAcc .indBC s, State.readByte_storeAcc s .indBC, rfl⟩,
    ⟨_, exec_storeAcc .indDE s, State.readByte_storeAcc s .indDE, rfl⟩,
    fun addr => ⟨_, exec_storeAcc (.abs addr) s, State.readByte_storeAcc s (.abs addr), rfl⟩,
    ⟨_, exec_storeAcc .highC s, State.readByte_storeAcc s .highC, rfl⟩⟩

/-- Settles O42: the load reads at HL as it was, and then HL moves up. -/
theorem loadThroughHLThenIncrement : Obligations.LoadThroughHLThenIncrement :=
  ⟨decode_of_op rfl,
    fun s => ⟨_, exec_loadAcc .hlInc s, State.loadAcc_a s .hlInc, State.afterAccess_hlInc_hl_toNat _, rfl⟩⟩

/-- Settles O43: each accesses memory at HL as it was, and then HL moves. -/
theorem remainingAccessesThroughHLThenMoveHL : Obligations.RemainingAccessesThroughHLThenMoveHL := fun s =>
  ⟨⟨_, exec_loadAcc .hlDec s, State.loadAcc_a s .hlDec, State.afterAccess_hlDec_hl_toNat _, rfl⟩,
    ⟨_, exec_storeAcc .hlInc s, State.readByte_storeAcc s .hlInc, State.afterAccess_hlInc_hl_toNat _, rfl⟩,
    ⟨_, exec_storeAcc .hlDec s, State.readByte_storeAcc s .hlDec, State.afterAccess_hlDec_hl_toNat _, rfl⟩⟩

/-- Settles O39: the bytes written to the two registers, and joined again by the decoder, are the high and the low byte
of the immediate. -/
theorem pairImmediateLoadsChangeOnePair : Obligations.PairImmediateLoadsChangeOnePair := by
  intro s n
  rw [← highByte_eq, ← lowByte_eq]
  exact ⟨exec_ldPairImm .bc n s, exec_ldPairImm .de n s, exec_ldPairImm .hl n s, exec_ldPairImm .sp n s, fun rest =>
    ⟨decode_encode_word rfl n rest, decode_encode_word rfl n rest, decode_encode_word rfl n rest,
      decode_encode_word rfl n rest⟩⟩

/-- Settles O40: each load writes A with the byte at its mode's effective address, and these modes have no side effect. -/
theorem accumulatorLoadsChangeAOnly : Obligations.AccumulatorLoadsChangeAOnly := by
  intro s
  rw [← joinBytes_eq_or, ← joinBytes_eq_or, ← State.effAddr_highC_eq_add]
  exact ⟨exec_loadAcc .indBC s, exec_loadAcc .indDE s, fun addr => exec_loadAcc (.abs addr) s, exec_loadAcc .highC s⟩

end Sys2Proof.Machine
end

section
/-! The stack's own rules: what memory holds after a push, what a pop takes, and that a pop undoes a push but for the two
bytes left in memory. They are used below to settle the statements of 43_stack.md. -/

namespace Sys2Proof.Machine

/-! ### Push (43_stack.md R230) -/

/-- The two bytes of a stack entry lie at different addresses, wherever SP is. -/
theorem stack_addresses_ne (sp : Word) : sp - 1#16 ≠ sp - 2#16 := by bv_omega

@[simp] theorem State.push_sp (s : State) (hi lo : Byte) : (s.push hi lo).sp = s.sp - 2#16 := by rw [State.push_eq]

/-- A byte read after a push. -/
theorem State.readByte_push (s : State) (hi lo : Byte) (x : Word) :
    (s.push hi lo).readByte x =
      if x = s.sp - 1#16 then hi else if x = s.sp - 2#16 then lo else s.readByte x := by
  rw [State.push_eq, State.withSP_readByte, State.readByte_writeByte, State.readByte_writeByte]
  by_cases hx : x = s.sp - 1#16
  · rw [if_pos hx, if_pos hx, if_neg (hx ▸ stack_addresses_ne s.sp)]
  · rw [if_neg hx, if_neg hx]

@[simp] theorem State.readByte_push_high (s : State) (hi lo : Byte) :
    (s.push hi lo).readByte (s.sp - 1#16) = hi := by rw [State.readByte_push, if_pos rfl]

@[simp] theorem State.readByte_push_low (s : State) (hi lo : Byte) :
    (s.push hi lo).readByte (s.sp - 2#16) = lo := by
  rw [State.readByte_push, if_neg (stack_addresses_ne s.sp).symm, if_pos rfl]

/-! ### Pop (43_stack.md R231, conflict C1) -/

@[simp] theorem State.pop_sp (s : State) : s.pop.2.sp = s.sp + 2#16 := by rw [State.pop_eq]

theorem State.highByte_pop (s : State) : highByte s.pop.1 = s.readByte (s.sp + 1#16) := by
  rw [State.pop_eq, highByte_joinBytes]

theorem State.lowByte_pop (s : State) : lowByte s.pop.1 = s.readByte s.sp := by
  rw [State.pop_eq, lowByte_joinBytes]

/-! ### A push and then a pop (43_stack.md R236, R238) -/

/-- The pop reads at the two addresses the push wrote, and SP comes back; memory alone tells that anything was done. -/
theorem State.pop_push (s : State) (hi lo : Byte) :
    (s.push hi lo).pop = (joinBytes hi lo, { s with mem := (s.push hi lo).mem }) := by
  have hhigh : s.sp - 2#16 + 1#16 = s.sp - 1#16 := by bv_omega
  have hsp : s.sp - 2#16 + 2#16 = s.sp := BitVec.sub_add_cancel s.sp 2#16
  rw [State.pop_eq, State.push_sp, hhigh, hsp, State.readByte_push_high, State.readByte_push_low]
  rfl

/-- PUSH of one pair and POP of another writes the one's value to the other. -/
theorem State.popPair_pushPair (s : State) (q q' : Pair) :
    (s.pushPair q).popPair q' = ({ s with mem := (s.pushPair q).mem }).setPair q' (s.pair q) := by
  rw [State.popPair, State.pushPair, State.pop_push, joinBytes_high_low]

/-- The pairs share no register: writing one keeps the others. -/
theorem State.pair_setPair_of_ne (s : State) {q x : Pair} (v : Word) (hx : x ≠ q) :
    (s.setPair q v).pair x = s.pair x := by
  cases q <;> cases x
  case bc.bc | de.de | hl.hl | af.af => exact absurd rfl hx
  all_goals rfl

end Sys2Proof.Machine
end

section
/-! The statements of 43_stack.md, settled. -/

namespace Sys2Proof.Machine

/-- Settles O44, from what SP is and what a byte read returns after a push. -/
theorem pushPrimitiveStoresHighThenLow : Obligations.PushPrimitiveStoresHighThenLow := fun s hi lo =>
  ⟨State.push_sp s hi lo, State.readByte_push s hi lo, rfl⟩

/-- Settles O45: PUSH pushes the pair's two bytes, and the low byte of AF is F as it stands. -/
theorem pushInstructionsStoreThePair : Obligations.PushInstructionsStoreThePair := by
  intro s q
  rw [← highByte_eq, ← lowByte_eq]
  refine ⟨⟨_, exec_push q s, pushPrimitiveStoresHighThenLow s _ _⟩, fun hclean => ⟨_, exec_push .af s, ?_⟩⟩
  have hstored : (s.pushPair .af).readByte (s.pushPair .af).sp = s.f := by
    rw [State.pushPair, State.push_sp, State.readByte_push_low]
    exact lowByte_joinBytes s.a s.f
  rw [hstored, hclean]

/-- Settles O47: the pop takes the two bytes the push stored, and leaves them in memory. -/
theorem popAfterPushRestoresBytesAndSP : Obligations.PopAfterPushRestoresBytesAndSP := by
  intro s hi lo
  rw [State.pop_push, ← joinBytes_eq_or]
  exact ⟨rfl, rfl, State.readByte_push_high s hi lo, State.readByte_push_low s hi lo⟩

/-- Settles O48: PUSH and then POP is a write of the first pair's value to the second, over the memory PUSH left. -/
theorem pushThenPopCopiesAPair : Obligations.PushThenPopCopiesAPair := by
  refine fun s q q' => ⟨_, _, exec_push q s, exec_pop q' _, ?_⟩
  rw [State.popPair_pushPair]
  exact ⟨State.pair_setPair_same _ q' _, State.setPair_sp _ q' _, State.setPair_pc _ q' _,
    fun _ hx => State.pair_setPair_of_ne _ _ hx⟩

/-- Settles O46: the bytes written to the two registers are the high and the low byte of the popped word. -/
theorem popInstructionsLoadThePair : Obligations.PopInstructionsLoadThePair := by
  intro s
  rw [← State.highByte_pop, ← State.lowByte_pop, ← State.pop_sp]
  exact ⟨exec_pop .bc s, exec_pop .de s, exec_pop .hl s, exec_pop .af s⟩

end Sys2Proof.Machine
end

section
/-! The statement of 60_exceptions.md, settled. -/

namespace Sys2Proof.Machine

/-- Settles O10: the invalid instruction has one meaning, the fatal fault (R250, R255), and it asks nothing of the byte or
of the state; a byte outside the 64 of R89 makes an ill-formed term, which faults the same way (log 6). -/
theorem invalidInstructionAlwaysFaults : Obligations.InvalidInstructionAlwaysFaults := exec_invalid

end Sys2Proof.Machine
end

section
/-! Rules for the statements of 70_reset_and_hazards.md: what a word placed at PC leaves for the next fetch, what memory
holds after boot without an image, and a session against the chained steps of `Host.Core.run`. -/

namespace Sys2Proof.Machine

/-! ### Bytes placed at consecutive addresses (70_reset_and_hazards.md R284; log 10) -/

@[simp] theorem State.writeBytes_pc (s : State) (addr : Word) (bs : List Byte) : (s.writeBytes addr bs).pc = s.pc := by
  induction bs generalizing s addr with
  | nil => rfl
  | cons v rest ih => exact ih _ _

/-- Three bytes placed at an address are read back from there, also where the addresses wrap. -/
theorem State.readByte_writeBytes_three (s : State) (addr : Word) (x y z : Byte) :
    let t := s.writeBytes addr [x, y, z]
    t.readByte addr = x ∧ t.readByte (addr + 1#16) = y ∧ t.readByte (addr + 2#16) = z := by
  have hthird : addr + 1#16 + 1#16 = addr + 2#16 := BitVec.add_assoc addr 1#16 1#16
  have h01 : addr ≠ addr + 1#16 := by bv_omega
  have h02 : addr ≠ addr + 2#16 := by bv_omega
  have h12 : addr + 1#16 ≠ addr + 2#16 := by bv_omega
  simp only [State.writeBytes, hthird]
  refine ⟨?_, ?_, ?_⟩
  · rw [State.readByte_writeByte_other _ _ h02, State.readByte_writeByte_other _ _ h01, State.readByte_writeByte_same]
  · rw [State.readByte_writeByte_other _ _ h12, State.readByte_writeByte_same]
  · rw [State.readByte_writeByte_same]

/-- What the machine would fetch at PC is the word placed there. -/
theorem State.withFetchWord_bytes (s : State) (nbits w : Nat) :
    [(s.withFetchWord nbits w).readByte s.pc, (s.withFetchWord nbits w).readByte (s.pc + 1#16),
      (s.withFetchWord nbits w).readByte (s.pc + 2#16)] = tableWordBytes nbits w := by
  obtain ⟨hfirst, hsecond, hthird⟩ := State.readByte_writeBytes_three s s.pc _ _ _
  rw [State.withFetchWord, tableWordBytes, hfirst, hsecond, hthird]

/-- The bytes the decoder takes are those of the instruction's encoding. -/
theorem length_encode_of_decode {bs : List Byte} {i : Instr} {rest : List Byte} (h : decode bs = .ok (i, rest)) :
    (encode i).length = bs.length - rest.length := by
  obtain ⟨_, hbytes⟩ := encode_of_decode h
  rw [← hbytes, List.length_append, Nat.add_sub_cancel]

/-! ### Memory booted without an image (70_reset_and_hazards.md R282) -/

/-- Boot without an image leaves the bytes of reset, whatever RESET_REGS is. -/
theorem boot_absent_readByte (r : Config.ResetRegs) (x : Word) :
    (boot r .absent).state.readByte x = State.reset.readByte x := by
  rw [boot_absent_eq]
  rfl

/-- A byte of reset that is not 0 comes from a pair of the post-boot table. -/
theorem mem_postBoot_of_reset_readByte_ne_zero {x : Word} (h : State.reset.readByte x ≠ 0#8) :
    (x.toNat, State.reset.readByte x) ∈ Config.postBoot := by
  rw [reset_readByte] at h ⊢
  cases hlookup : Config.postBoot.lookup x.toNat with
  | none => rw [hlookup] at h; exact absurd rfl h
  | some v =>
    obtain ⟨before, after, hsplit, _⟩ := List.lookup_eq_some_iff.mp hlookup
    rw [hsplit]
    exact List.mem_append_cons_self

/-! ### Sessions under the empty policy (70_reset_and_hazards.md R289; 60_exceptions.md R255) -/

/-- One step more: the chained steps reach a state exactly when the first of them reaches one from which the rest do. -/
theorem run_succ_eq_next_iff (M : Host.Core) (k : Nat) (s t : M.State) :
    M.run (k + 1) s = .next t ↔ ∃ u, M.step s = .next u ∧ M.run k u = .next t := by
  rw [Host.Core.run]
  cases M.step s with
  | next u => simp
  | fault r => simp
  | refused r => simp

/-- The same of a session whose stop rule does not hold yet: it stops where its first step is followed to a stop. -/
theorem runSession_succ_eq_stopped_iff {rule : StopRule} {steps : Nat} {s : State} (h : rule.holds steps s = false)
    (fuel m : Nat) (t : State) :
    runSession HostPolicy.empty rule (fuel + 1) steps s = .stopped m t ↔
      ∃ u, step s = .next u ∧ runSession HostPolicy.empty rule fuel (steps + 1) u = .stopped m t := by
  have hempty : s.hostWrites (HostPolicy.empty steps s) = s := rfl
  rw [runSession, h, hempty]
  cases step s with
  | next u => simp
  | fault r => simp
  | refused r => simp

/-- With the steps still to do as its fuel, a session that stops at a count ends where that many steps lead. -/
theorem runSession_stepCount_iff {n k steps : Nat} (hcount : steps + k = n) (s t : State) :
    runSession HostPolicy.empty (.stepCount n) k steps s = .stopped n t ↔
      Host.Core.run Sys2Proof.core k s = .next t := by
  induction k generalizing steps s with
  | zero =>
    have hstop : runSession HostPolicy.empty (.stepCount n) 0 steps s = .stopped steps s :=
      if_pos (beq_iff_eq.mpr hcount)
    have hrun : Host.Core.run Sys2Proof.core 0 s = .next s := rfl
    rw [hstop, hrun, show steps = n from hcount]
    exact ⟨fun h => by cases h; rfl, fun h => by cases h; rfl⟩
  | succ k ih =>
    have hgo : (StopRule.stepCount n).holds steps s = false := beq_false_of_ne (by omega)
    calc
      _ ↔ ∃ u, step s = .next u ∧ runSession HostPolicy.empty (.stepCount n) k (steps + 1) u = .stopped n t :=
          runSession_succ_eq_stopped_iff hgo k n t
      _ ↔ ∃ u, step s = .next u ∧ Host.Core.run Sys2Proof.core k u = .next t :=
          exists_congr fun u => and_congr_right fun _ => ih (by omega) u
      _ ↔ _ := (run_succ_eq_next_iff Sys2Proof.core k s t).symm

end Sys2Proof.Machine
end

section
/-! The statements of 70_reset_and_hazards.md, settled. -/

namespace Sys2Proof.Machine

/-- Settles O11: the step decodes the three bytes at PC, which are the placed word, and takes those of the encoding. -/
theorem placedWordIsTheNextInstructionRun : Obligations.PlacedWordIsTheNextInstructionRun := by
  intro s nbits w
  have hpc : (s.withFetchWord nbits w).pc = s.pc := State.writeBytes_pc s s.pc _
  obtain ⟨⟨i, rest, hdecode⟩, hstep⟩ := stepRunsTheDecodedInstruction (s.withFetchWord nbits w)
  have hrun := hstep i rest hdecode
  have hlength : (encode i).length = 3 - rest.length := length_encode_of_decode hdecode
  rw [hpc, State.withFetchWord_bytes] at hdecode
  refine ⟨i, by rw [decodeTableWord, hdecode], ?_⟩
  rw [hrun, hpc, hlength]

/-- Settles O56: a byte that is not 0 comes from the table, and nineteen of the table's bytes are not 0. -/
theorem postBootTableIsAllThatIsNotZero : Obligations.PostBootTableIsAllThatIsNotZero := by
  intro r
  simp only [boot_absent_readByte]
  refine ⟨by decide, fun x hx => ?_⟩
  have hnineteen : ∀ p ∈ Config.postBoot, p.2 ≠ 0#8 →
      BitVec.ofNat 16 p.1 ∈ [0xFF10#16, 0xFF11#16, 0xFF12#16, 0xFF14#16, 0xFF16#16, 0xFF19#16, 0xFF1A#16, 0xFF1B#16,
        0xFF1C#16, 0xFF1E#16, 0xFF20#16, 0xFF23#16, 0xFF24#16, 0xFF25#16, 0xFF26#16, 0xFF40#16, 0xFF47#16, 0xFF48#16,
        0xFF49#16] := by decide
  have hmem := hnineteen _ (mem_postBoot_of_reset_readByte_ne_zero hx) hx
  rwa [BitVec.ofNat_toNat, BitVec.setWidth_eq] at hmem

/-- Settles O60: it is the session from its start, with all n steps still to do. -/
theorem sessionOfNStepsIsNSteps : Obligations.SessionOfNStepsIsNSteps := fun n s t =>
  runSession_stepCount_iff (Nat.zero_add n) s t

end Sys2Proof.Machine
end
